-- ==== Sys2Proof/Word.lean ====
section
/-! DEFINITION. The words of the block (00_scope.md R7, R8): bytes, the 32-bit values of the reading
arrays, the bus address, and the two kinds of word an instruction is written in. -/

namespace Sys2Proof

/-- A byte, `u8` (R8). -/
abbrev Byte := BitVec 8

/-- A 16-bit value, `u16`: what `BE16` reads (R44), the reference voltage. -/
abbrev Word16 := BitVec 16

/-- A 32-bit value, `u32`: one element of a reading array. -/
abbrev Word32 := BitVec 32

/-- A bus address, 7 bits (20_memory.md R40). -/
abbrev BusAddr := BitVec 7

/-- A word that stands for an instruction: the 20-bit request word of format REQ (30_encoding.md R71),
or the 64-bit image of a command frame of format CF, frame byte 0 in bits 63:56 (R61). -/
inductive Code where
  | req   (w : BitVec 20)
  | frame (w : BitVec 64)
  deriving DecidableEq, Repr

end Sys2Proof
end

