-- ==== Sys2Proof/Config.lean ====
section
/-! DEFINITION. The parameter table of 00_scope.md R6, and the values the spec leaves open: opaque
constants, so that no proof can see what they are. -/

namespace Sys2Proof

/-- `CRC_WIDTH`, bits: the width of the CRC register and of the checksum. -/
abbrev Config.crcWidth : Nat := 16

/-- A value of the CRC register (10_state.md R23), and a checksum: `CRC_WIDTH` bits. -/
abbrev CrcWord := BitVec Config.crcWidth

end Sys2Proof

namespace Sys2Proof.Config

/-- `BUS_ADDR`. -/
def busAddr : BusAddr := 0x4B
/-- `FRAME_LEN`, bytes. -/
abbrev frameLen : Nat := 8
/-- `PARAM_POS`, the index of the parameter byte in the frame (D1). -/
def paramPos : Fin frameLen := 1
/-- `CRC_POLY`. -/
def crcPoly : CrcWord := 0x8408
/-- `CRC_INIT`. -/
def crcInit : CrcWord := 0xFFFF
/-- `TRAILER_LEN`, bytes. -/
def trailerLen : Nat := 2
/-- `MAX_REPLY_LEN`, bytes (D8). -/
abbrev maxReplyLen : Nat := 32
/-- `N_BINS`. -/
abbrev nBins : Nat := 7
/-- `T_BACKOFF_MS`. -/
def tBackoffMs : Nat := 1000
/-- `T_SETTLE1_MS`. -/
def tSettle1Ms : Nat := 100
/-- `T_SETTLE2_MS`. -/
def tSettle2Ms : Nat := 1000
/-- `RETRY_LIMIT`: none, the loop is unbounded (42_checked_read.md R123). The block has no retry counter
(10_state.md R33), so no operation reads this. -/
def retryLimit : Option Nat := none

/-- `OP_INIT`. -/
def opInit : Byte := 0x10
/-- `PARAM_INIT`. -/
def paramInit : Byte := 0x01
/-- `OP_READ_COUNTS`. -/
def opReadCounts : Byte := 0x11
/-- `OP_READ_CONC`. -/
def opReadConc : Byte := 0x12
/-- `OP_READ_VREF`. -/
def opReadVref : Byte := 0x69
/-- `OP_READ_STATUS`. -/
def opReadStatus : Byte := 0x6A
/-- `OP_FAN_CONTROL`. -/
def opFanControl : Byte := 0x2B
/-- `LEN_COUNTS`, bytes; 6 bits as `cur_len`. -/
def lenCounts : BitVec 6 := 30
/-- `LEN_CONC`, bytes. -/
def lenConc : BitVec 6 := 32
/-- `LEN_VREF`, bytes. -/
def lenVref : BitVec 6 := 4
/-- `LEN_STATUS`, bytes. -/
def lenStatus : BitVec 6 := 3

/-- The legal values of `FLOAT_LAYOUT`: one (20_memory.md R45). -/
inductive FloatLayout where
  | littleEndian
  deriving DecidableEq, Repr

/-- `FLOAT_LAYOUT`. -/
def floatLayout : FloatLayout := .littleEndian

/-- `VREF_SIGNED`, OPEN (D14): whether the host reads the reference-voltage pattern as signed. -/
opaque vrefSigned : Bool

/-- `PHY`, OPEN (D3): an uninterpreted name of the physical layer. No rule depends on it (log 10). -/
opaque phy : Nat
/-- `TICK`, OPEN (D10): an uninterpreted name of the time base. No rule depends on it (log 10). -/
opaque tick : Nat
/-- `LINK_INIT`, OPEN (D28): an uninterpreted name of what link startup does. No rule depends on it (log 10). -/
opaque linkInit : Nat

/-- What `res_buf` holds while it is unspecified (70_reset_and_hazards.md R200), a free value of the
draw counter (log 3). -/
opaque freeResBuf : Nat → Vector Byte maxReplyLen
/-- What `res_len` holds while it is unspecified (R200, log 3); the width is log 22. -/
opaque freeResLen : Nat → BitVec 6
/-- What `res_value` holds while it is unspecified (R200, D26, log 3). -/
opaque freeResValue : Nat → Word16
/-- What `res_ok` holds while it is unspecified (R200, log 3). -/
opaque freeResOk : Nat → Bool

end Sys2Proof.Config
end

