-- ==== Sys2Proof/Machine/Crc.lean ====
section
/-! DEFINITION. The CRC-16 unit (41_crc16.md R100 to R108) and its port (R114): pure functions of the
register value. -/

namespace Sys2Proof.Machine

/-- `CRC_CLEAR` (R101): the register value it leaves. -/
def crcClear : CrcWord := Config.crcInit

/-- `CRC_BIT(d)` (R102): the feedback bit is the register's low bit XOR the data bit. -/
def crcBit (crc : CrcWord) (d : Bool) : CrcWord :=
  let fb := crc.getLsbD 0 ^^ d
  if fb then (crc >>> 1) ^^^ Config.crcPoly else crc >>> 1

/-- `CRC_BYTE(b)` (R104): eight bits, low bit first. -/
def crcByte (crc : CrcWord) (b : Byte) : CrcWord :=
  [0, 1, 2, 3, 4, 5, 6, 7].foldl (fun c i => crcBit c (b.getLsbD i)) crc

/-- `CRC_FINAL` (R105): complement, then exchange the two bytes. -/
def crcFinal (crc : CrcWord) : CrcWord :=
  let c := ~~~crc
  c.extractLsb' 0 8 ++ c.extractLsb' 8 8

/-- The register after `CRC_CLEAR` and one `CRC_BYTE` per byte in index order (R106, 20_memory.md R46). -/
def crcOver (s : List Byte) : CrcWord := s.foldl crcByte crcClear

/-- `CRC16(s)` (R106). -/
def crc16 (s : List Byte) : CrcWord := crcFinal (crcOver s)

/-- The register of the CRC unit's port after one step of its inputs (R114): `crc_clear`, `crc_en` with
`crc_din`. R114 leaves open whether a byte is absorbed in one step or eight, and says nothing of both inputs high
at once: here one step absorbs a whole byte, and the clear is done first (DESIGN CHOICE, log 21). -/
def crcPortStep (clear en : Bool) (din : Byte) (crc : CrcWord) : CrcWord :=
  let c := if clear then crcClear else crc
  if en then crcByte c din else c

/-- The port's output `crc_out` (R114). -/
def crcPortOut (crc : CrcWord) : CrcWord := crcFinal crc

/-- The port's output `match` (R114). -/
def crcPortMatch (trailer crc : CrcWord) : Bool := crcPortOut crc == trailer

end Sys2Proof.Machine
end

