-- ==== Sys2Proof/Syntax.lean ====
section
/-! DEFINITION. The instructions: one constructor per row of `opcode_table.json`, six wire commands
(30_encoding.md R66) and nine host commands (R71). -/

namespace Sys2Proof

/-- One row of the opcode table with its operands. -/
inductive Instr where
  /-- INIT (44_commands.md R150). -/
  | init
  /-- READ_COUNTS (R151). -/
  | readCounts
  /-- READ_CONC (R152). -/
  | readConc
  /-- READ_VREF (R153). -/
  | readVref
  /-- READ_STATUS (R154). -/
  | readStatus
  /-- FAN_CONTROL p (R155). -/
  | fanControl (p : Bool)
  /-- BEGIN (40_transport.md R85). -/
  | begin
  /-- UPDATE (44_commands.md R156). -/
  | update
  /-- GET_REFERENCE_VOLTAGE (R157). -/
  | getReferenceVoltage
  /-- GET_STATUS (R158). -/
  | getStatus
  /-- SET_FAN on (R160). -/
  | setFan (on : Bool)
  /-- SET_DEBUG enabled (R159). -/
  | setDebug (enabled : Bool)
  /-- CHECKSUMMED_READ opcode, reply_len (42_checked_read.md R121). -/
  | checksummedRead (opcode len : Byte)
  /-- PLAIN_READ opcode, reply_len (R126). -/
  | plainRead (opcode len : Byte)
  /-- WRITE opcode, param (R129). -/
  | write (opcode param : Byte)
  deriving DecidableEq, Repr

end Sys2Proof
end

