-- ==== Sys2Proof/WellFormed.lean ====
section
/-! DEFINITION. Which instructions are well formed: the two reply-length domains, the only operands the
spec restricts (20_memory.md R49, 42_checked_read.md R120, R125). -/

namespace Sys2Proof

/-- The operands lie in the domain the spec gives the instruction. Every other operand is unrestricted:
an opcode or a parameter byte is sent unchecked (30_encoding.md R68). -/
def Instr.wellFormed : Instr → Bool
  | .init => true
  | .readCounts => true
  | .readConc => true
  | .readVref => true
  | .readStatus => true
  | .fanControl _ => true
  | .begin => true
  | .update => true
  | .getReferenceVoltage => true
  | .getStatus => true
  | .setFan _ => true
  | .setDebug _ => true
  | .checksummedRead _ len => decide (2 ≤ len.toNat ∧ len.toNat ≤ Config.maxReplyLen)
  | .plainRead _ len => decide (1 ≤ len.toNat ∧ len.toNat ≤ Config.maxReplyLen)
  | .write _ _ => true

end Sys2Proof
end

