-- ==== Sys2Proof/Decode.lean ====
section
/-! DEFINITION. Decoding a word into an instruction, total and rejecting by name, and the encoder.
Formats REQ (30_encoding.md R71, R72) and CF (R61, R66). The block itself only ever emits frames (R68):
decoding one is how the model names a wire command (log 5). -/

namespace Sys2Proof

/-- Why a word is no instruction. -/
inductive DecodeError where
  /-- A request word with `op` in 0x9 to 0xF (R72). -/
  | reservedRequest
  /-- A frame image that is none of the six of R66. -/
  | unknownFrame
  deriving DecidableEq, Repr

/-- Request word fields (R71): `op[19:16]`, `a[15:8]`, `b[7:0]`. -/
def reqOp (w : BitVec 20) : BitVec 4 := w.extractLsb' 16 4
/-- Field `a` of a request word. -/
def reqA (w : BitVec 20) : Byte := w.extractLsb' 8 8
/-- Field `b` of a request word. -/
def reqB (w : BitVec 20) : Byte := w.extractLsb' 0 8

/-- Decode a request word by the table of R71. Ignored fields may hold any value (R72). -/
def decodeRequest (w : BitVec 20) : Except DecodeError Instr :=
  match (reqOp w).toNat with
  | 0x0 => .ok .begin
  | 0x1 => .ok .update
  | 0x2 => .ok .getReferenceVoltage
  | 0x3 => .ok .getStatus
  | 0x4 => .ok (.setFan ((reqB w).getLsbD 0))
  | 0x5 => .ok (.setDebug ((reqB w).getLsbD 0))
  | 0x6 => .ok (.checksummedRead (reqA w) (reqB w))
  | 0x7 => .ok (.plainRead (reqA w) (reqB w))
  | 0x8 => .ok (.write (reqA w) (reqB w))
  | _ => .error .reservedRequest

/-- Frame image fields (R61): byte 0, the opcode. -/
def frameOpcode (w : BitVec 64) : Byte := w.extractLsb' 56 8
/-- Byte 1, the parameter (D1). -/
def frameParam (w : BitVec 64) : Byte := w.extractLsb' 48 8
/-- Bytes 2 to 7. -/
def framePad (w : BitVec 64) : BitVec 48 := w.extractLsb' 0 48

/-- Decode a frame image by the table of R66. The pad bytes are zero in every row; the parameter is 0x01
in INIT, 0x00 or 0x01 in FAN_CONTROL, 0x00 in the four reads. -/
def decodeFrame (w : BitVec 64) : Except DecodeError Instr :=
  if framePad w ≠ 0 then .error .unknownFrame
  else if frameOpcode w = Config.opInit ∧ frameParam w = Config.paramInit then .ok .init
  else if frameOpcode w = Config.opReadCounts ∧ frameParam w = 0 then .ok .readCounts
  else if frameOpcode w = Config.opReadConc ∧ frameParam w = 0 then .ok .readConc
  else if frameOpcode w = Config.opReadVref ∧ frameParam w = 0 then .ok .readVref
  else if frameOpcode w = Config.opReadStatus ∧ frameParam w = 0 then .ok .readStatus
  else if frameOpcode w = Config.opFanControl ∧ frameParam w = 0 then .ok (.fanControl false)
  else if frameOpcode w = Config.opFanControl ∧ frameParam w = 1 then .ok (.fanControl true)
  else .error .unknownFrame

/-- Decode a word of either format. -/
def decode : Code → Except DecodeError Instr
  | .req w => decodeRequest w
  | .frame w => decodeFrame w

/-- The frame image of eight bytes in index order, byte 0 most significant (R61). -/
def frameImageOfBytes (b0 b1 b2 b3 b4 b5 b6 b7 : Byte) : BitVec 64 :=
  b0 ++ b1 ++ b2 ++ b3 ++ b4 ++ b5 ++ b6 ++ b7

/-- Decode a byte sequence as a frame: exactly `FRAME_LEN` = 8 bytes (R60, R73). -/
def decodeFrameBytes : List Byte → Except DecodeError Instr
  | [b0, b1, b2, b3, b4, b5, b6, b7] => decodeFrame (frameImageOfBytes b0 b1 b2 b3 b4 b5 b6 b7)
  | _ => .error .unknownFrame

/-- A Boolean as a byte: true gives 0x01, false gives 0x00 (R67). -/
def boolByte (b : Bool) : Byte := if b then 0x01 else 0x00

/-- The request word `op ++ a ++ b` (R71). -/
def reqWord (op : BitVec 4) (a b : Byte) : BitVec 20 := op ++ a ++ b

/-- The frame image with this opcode and parameter and zero padding (R61). -/
def frameImage (opcode param : Byte) : BitVec 64 := (opcode ++ param) ++ (0 : BitVec 48)

/-- The word of an instruction, ignored fields zero (R61, R66, R71). -/
def encode : Instr → Code
  | .init => .frame (frameImage Config.opInit Config.paramInit)
  | .readCounts => .frame (frameImage Config.opReadCounts 0)
  | .readConc => .frame (frameImage Config.opReadConc 0)
  | .readVref => .frame (frameImage Config.opReadVref 0)
  | .readStatus => .frame (frameImage Config.opReadStatus 0)
  | .fanControl p => .frame (frameImage Config.opFanControl (boolByte p))
  | .begin => .req (reqWord 0x0 0 0)
  | .update => .req (reqWord 0x1 0 0)
  | .getReferenceVoltage => .req (reqWord 0x2 0 0)
  | .getStatus => .req (reqWord 0x3 0 0)
  | .setFan on => .req (reqWord 0x4 0 (boolByte on))
  | .setDebug enabled => .req (reqWord 0x5 0 (boolByte enabled))
  | .checksummedRead opcode len => .req (reqWord 0x6 opcode len)
  | .plainRead opcode len => .req (reqWord 0x7 opcode len)
  | .write opcode param => .req (reqWord 0x8 opcode param)

/-- The word whose bits, numbered as the opcode table numbers them, are those of `w`: a 20-bit request word
where the row is at most 32 bits in whole bytes, else a 64-bit frame image (log 14). -/
def codeOfTableWord (nbits w : Nat) : Option Code :=
  if nbits ≤ 32 then
    if w < 2 ^ 20 then some (.req (BitVec.ofNat 20 w)) else none
  else if nbits ≤ 64 then
    if w < 2 ^ 64 then some (.frame (BitVec.ofNat 64 w)) else none
  else none

/-- The instruction the decoder reads from a table word, none where it refuses. -/
def decodeTableWord (nbits w : Nat) : Option Instr :=
  match codeOfTableWord nbits w with
  | none => none
  | some c =>
    match decode c with
    | .ok i => some i
    | .error _ => none

end Sys2Proof
end

