-- ==== Sys2Proof/Machine/Operands.lean ====
section
/-! DEFINITION. Operand forms: multi-byte values assembled from byte sequences (30_encoding.md R76), the
command frame (R61, R67), the reply-length domains (42_checked_read.md R120, R125), the decoded arrays
(43_decode.md R141, R142) and the integers the host reads (R148). -/

namespace Sys2Proof.Machine

/-- `s[k]`. No operation asks for an index outside the sequence in a reachable state (log 15). -/
def byteAt (s : List Byte) (k : Nat) : Byte := s.getD k 0

/-- `BE16(s, k)` (R76). -/
def be16 (s : List Byte) (k : Nat) : Word16 :=
  ((byteAt s k).zeroExtend 16 <<< 8) ||| (byteAt s (k + 1)).zeroExtend 16

/-- `BE32(s, k)` (R76). -/
def be32 (s : List Byte) (k : Nat) : Word32 :=
  ((byteAt s k).zeroExtend 32 <<< 24) ||| ((byteAt s (k + 1)).zeroExtend 32 <<< 16)
    ||| ((byteAt s (k + 2)).zeroExtend 32 <<< 8) ||| (byteAt s (k + 3)).zeroExtend 32

/-- `LE32(s, k)` (R76). -/
def le32 (s : List Byte) (k : Nat) : Word32 :=
  (byteAt s k).zeroExtend 32 ||| ((byteAt s (k + 1)).zeroExtend 32 <<< 8)
    ||| ((byteAt s (k + 2)).zeroExtend 32 <<< 16) ||| ((byteAt s (k + 3)).zeroExtend 32 <<< 24)

/-- `TRAILER(s, L)` (R76): the last `TRAILER_LEN` = 2 bytes, big-endian. -/
def trailer (s : List Byte) (len : Nat) : CrcWord := be16 s (len - Config.trailerLen)

/-- The payload of a checksummed reply of length L: `s[0..L-2)` (00_scope.md R8). -/
def payload (s : List Byte) (len : Nat) : List Byte := s.take (len - Config.trailerLen)

/-- The command frame CF (R61, R81): the opcode at index 0, the parameter at `PARAM_POS`, zeros. -/
def commandFrame (opcode param : Byte) : Vector Byte Config.frameLen :=
  ((Vector.replicate Config.frameLen 0).set 0 opcode).set Config.paramPos.val param

/-- `buf[0..n) <- r`: the first n bytes of `r` over those of `b`, the rest of `b` unchanged (log 7). -/
def overwrite (b r : Vector Byte Config.maxReplyLen) (n : Nat) : Vector Byte Config.maxReplyLen :=
  Vector.ofFn fun i => if i.val < n then r[i] else b[i]

/-- The reply lengths `CHECKSUMMED_READ` is defined for (R120). -/
def checkedLenOk (len : Byte) : Bool := decide (2 ≤ len.toNat ∧ len.toNat ≤ Config.maxReplyLen)

/-- The reply lengths `PLAIN_READ` is defined for (R125). -/
def plainLenOk (len : Byte) : Bool := decide (1 ≤ len.toNat ∧ len.toNat ≤ Config.maxReplyLen)

/-- A reply length as `cur_len` holds it, 6 bits (10_state.md R26). -/
def latchedLen (len : Byte) : BitVec 6 := len.setWidth 6

/-- The seven counts of a counts reply (R141): `BE32` at 4i. -/
def decodeCounts (s : List Byte) : Vector Word32 Config.nBins :=
  Vector.ofFn fun i => be32 s (4 * i.val)

/-- The four bytes of a float field as a 32-bit pattern, in the layout `FLOAT_LAYOUT` (20_memory.md R45). -/
def floatPattern (s : List Byte) (k : Nat) : Word32 :=
  match Config.floatLayout with
  | .littleEndian => le32 s k

/-- The seven concentration patterns of a concentrations reply (R142): `LE32` at 4i. -/
def decodeConc (s : List Byte) : Vector Word32 Config.nBins :=
  Vector.ofFn fun i => floatPattern s (4 * i.val)

/-- `DECODE_VREF` (R143). -/
def decodeVref (s : List Byte) : Word16 := be16 s 0

/-- `DECODE_STATUS` (R144). -/
def decodeStatus (s : List Byte) : Byte := byteAt s 0

/-- The integer the host reads for a reference-voltage pattern (R148): signed or unsigned by the open
parameter `VREF_SIGNED`. -/
def hostVref (pattern : Word16) : Int := if Config.vrefSigned then pattern.toInt else pattern.toNat

/-- The integer the host reads for a status byte in `res_value` (R148): 0 to 255. -/
def hostStatus (pattern : Word16) : Int := pattern.toNat

end Sys2Proof.Machine
end

