-- ==== Sys2Proof/Machine/State.lean ====
section
/-! DEFINITION. The state of the block (10_state.md), plain data, and its reset value (R36). -/

namespace Sys2Proof.Machine

/-- The sequencer phases (R28). -/
inductive Phase where
  | idle | link | settle1 | prime | settle2 | write | read | check | backoff | decode | done
  deriving DecidableEq, Repr

/-- What `cur_op` holds: the command in execution, without its operands (R26). The last six are the wire
commands, run on their own only by the model (log 5). -/
inductive Op where
  | begin | update | getReferenceVoltage | getStatus | setFan | setDebug
  | checksummedRead | plainRead | write
  | init | readCounts | readConc | readVref | readStatus | fanControl
  deriving DecidableEq, Repr

/-- The bytes the peripheral puts on the bus in answer to one read: a `BusRead` of n bytes delivers the
first n of them (00_scope.md R10, 60_exceptions.md R173). -/
abbrev Reply := Vector Byte Config.maxReplyLen

/-- One event of `Trace` (00_scope.md R13). -/
inductive Event where
  | linkInit
  | wait (ms : Nat)
  | busWrite (addr : BusAddr) (bytes : List Byte)
  | busRead (addr : BusAddr) (n : Nat) (reply : List Byte)
  deriving DecidableEq, Repr

/-- What the other agents will do: the model's own field (log 2). Nothing is assumed about it, so a claim
about every state is a claim about every draw (R173). -/
structure World where
  /-- How many more `LinkInit`, `Wait` and `BusWrite` complete before one never does (R174); none: all do. -/
  completions : Option Nat
  /-- The replies the peripheral gives to the coming reads, the next one first. -/
  replies : List Reply
  /-- The reply given to every read after those; none: the read after those never completes (R174). -/
  thereafter : Option Reply
  deriving DecidableEq, Repr

/-- The state of the machine. -/
structure State where
  /-- `particle_counts` (R21). -/
  particleCounts : Vector Word32 Config.nBins
  /-- `mass_concentrations`, 32-bit patterns (R22). -/
  massConcentrations : Vector Word32 Config.nBins
  /-- `crc` (R23). -/
  crc : CrcWord
  /-- `frame` (R24). -/
  frame : Vector Byte Config.frameLen
  /-- `buf` (R25). -/
  buf : Vector Byte Config.maxReplyLen
  /-- `buf_len` (R25, which gives the range 1 to 32 and no width: 6 bits is DESIGN CHOICE, log 22). -/
  bufLen : BitVec 6
  /-- `cur_op` (R26). -/
  curOp : Op
  /-- `cur_opcode` (R26). -/
  curOpcode : Byte
  /-- `cur_param` (R26). -/
  curParam : Byte
  /-- `cur_len` (R26). -/
  curLen : BitVec 6
  /-- `res_buf` (R27). -/
  resBuf : Vector Byte Config.maxReplyLen
  /-- `res_len` (R27, which gives no width: 6 bits is DESIGN CHOICE, log 22). -/
  resLen : BitVec 6
  /-- `res_value` (R27). -/
  resValue : Word16
  /-- `res_ok` (R27). -/
  resOk : Bool
  /-- `phase` (R28). -/
  phase : Phase
  /-- `ready` (R30). -/
  ready : Bool
  /-- `debug` (R31). -/
  debug : Bool
  /-- `Trace`, oldest event first (R35). -/
  trace : List Event
  /-- The word on the request port, if any (30_encoding.md R70; log 11). -/
  pending : Option Code
  /-- The reset event waiting to be taken (70_reset_and_hazards.md R191; log 9). -/
  resetRequest : Bool
  /-- The other agents (log 2). -/
  world : World
  /-- The argument of the next free values (log 3). -/
  draws : Nat
  deriving DecidableEq, Repr

/-- Why a step stops with a fault. None: "the block has no fault state and no fault bit" (R187). -/
inductive Fault where
  deriving DecidableEq, Repr

/-- Why a step has no next state: the outcome `Refuse(reason)` of 00_scope.md R13. -/
inductive Refusal where
  /-- Raised by an arm of `exec` that has no meaning yet; no arm raises it. Safe. -/
  | notModelled (mnemonic : String)
  /-- `Refuse(not_ready)`: raised by every command but `BEGIN` and `SET_DEBUG`, and by a step whose word is no
  instruction, while `ready` = 0 (60_exceptions.md R177, R179, 92_eei_decisions.md D6). Safe: the spec's own
  refusal. -/
  | notReady
  /-- `Refuse(bad_length)`: raised by `CHECKSUMMED_READ` and `PLAIN_READ` with a reply length outside the
  domain (R176). Safe: the spec's own refusal. -/
  | badLength
  /-- `Refuse(reserved_request)`: raised by a step of a ready block whose request word has `op` in 0x9
  to 0xF (30_encoding.md R72). Safe: the spec's own refusal. -/
  | reservedRequest
  /-- Raised by a step of a ready block given a 64-bit word that is no frame of R66; the block never meets one (R68, log 5).
  Safe. -/
  | unknownFrame
  deriving DecidableEq, Repr

/-- The state right after reset (R36, 70_reset_and_hazards.md R190). The elements the spec leaves
unspecified hold the values of log 1, the model's own fields those of logs 2, 3, 9 and 11. -/
def State.reset : State where
  particleCounts := Vector.replicate Config.nBins 0
  massConcentrations := Vector.replicate Config.nBins 0
  crc := 0
  frame := Vector.replicate Config.frameLen 0
  buf := Vector.replicate Config.maxReplyLen 0
  bufLen := 0
  curOp := .begin
  curOpcode := 0
  curParam := 0
  curLen := 0
  resBuf := Vector.replicate Config.maxReplyLen 0
  resLen := 0
  resValue := 0
  resOk := false
  phase := .idle
  ready := false
  debug := false
  trace := []
  pending := none
  resetRequest := false
  world := { completions := none, replies := [], thereafter := none }
  draws := 0

end Sys2Proof.Machine
end

