-- ==== Sys2Proof/Machine/Flags.lean ====
section
/-! DEFINITION. The flags (10_state.md R29): `match`, which the validator computes (41_crc16.md R109 to
R112), `busy` and `done`. None is stored (log 17). -/

namespace Sys2Proof.Machine

/-- `VAL_RECEIVED(buf, L)` (R110). -/
def valReceived (s : List Byte) (len : Nat) : CrcWord := trailer s len

/-- The checksum computed over the payload (R111). -/
def valComputed (s : List Byte) (len : Nat) : CrcWord := crc16 (payload s len)

/-- `VAL_CHECK(buf, L)`, the flag `match` (R111). -/
def valCheck (s : List Byte) (len : Nat) : Bool := valComputed s len == valReceived s len

/-- A well-formed checksummed reply of length L (30_encoding.md R77). -/
def checksumValid (s : List Byte) : Prop := 2 ≤ s.length ∧ crc16 (payload s s.length) = trailer s s.length

/-- The bytes of the reply buffer that the current reply holds: `buf[0..buf_len)`. -/
def State.reply (s : State) : List Byte := s.buf.toList.take s.bufLen.toNat

/-- The flag `match` of the current reply (R29 (a)). -/
def State.matchFlag (s : State) : Bool := valCheck s.reply s.bufLen.toNat

/-- `busy` (R29 (b)). -/
def State.busy (s : State) : Bool := decide (s.phase ≠ .idle ∧ s.phase ≠ .done)

/-- `done` (R29 (c)). -/
def State.done (s : State) : Bool := decide (s.phase = .done)

end Sys2Proof.Machine
end

