-- ==== Sys2Proof/Machine/Ops.lean ====
section
/-! DEFINITION. The named operations over State: register writes, the primitives of 00_scope.md R10 to R13
with their two outcomes (60_exceptions.md R174), the transport operations (40_transport.md R81, R83), the
entry and return of `ChecksumMismatch` (60_exceptions.md R175, R180), acceptance and refusal of a request
(30_encoding.md R70), and reset (70_reset_and_hazards.md R191). -/

namespace Sys2Proof.Machine

/-! ## Register writes -/

/-- `phase <- p` (00_scope.md R9). -/
def State.goTo (p : Phase) (s : State) : State := { s with phase := p }

/-- `Trace <- Trace ++ [e]` (10_state.md R35). -/
def State.record (e : Event) (s : State) : State := { s with trace := s.trace ++ [e] }

/-- The other agents have moved on. -/
def State.setWorld (w : World) (s : State) : State := { s with world := w }

/-- `cur_op <- op` (R26). -/
def State.latchOp (op : Op) (s : State) : State := { s with curOp := op }

/-- `cur_opcode`, `cur_param` (R26). -/
def State.latchWire (opcode param : Byte) (s : State) : State :=
  { s with curOpcode := opcode, curParam := param }

/-- `cur_len` (R26). -/
def State.latchLen (n : BitVec 6) (s : State) : State := { s with curLen := n }

/-- `frame`, all eight bytes at once (R24). -/
def State.setFrame (f : Vector Byte Config.frameLen) (s : State) : State := { s with frame := f }

/-- `buf[0..n) <- r ; buf_len <- n` (R25). -/
def State.setReply (r : Reply) (n : BitVec 6) (s : State) : State :=
  { s with buf := overwrite s.buf r n.toNat, bufLen := n }

/-- `crc` (R23). -/
def State.setCrc (c : CrcWord) (s : State) : State := { s with crc := c }

/-- `particle_counts`, all seven in one step (43_decode.md R147). -/
def State.setCounts (v : Vector Word32 Config.nBins) (s : State) : State := { s with particleCounts := v }

/-- `mass_concentrations`, all seven in one step (R147). -/
def State.setConc (v : Vector Word32 Config.nBins) (s : State) : State := { s with massConcentrations := v }

/-- `res_buf[0..n) <- buf[0..n) ; res_len <- n`, n = `buf_len` (10_state.md R27). -/
def State.setResBuf (s : State) : State :=
  { s with resBuf := overwrite s.resBuf s.buf s.bufLen.toNat, resLen := s.bufLen }

/-- `res_value` (R27). -/
def State.setResValue (v : Word16) (s : State) : State := { s with resValue := v }

/-- `res_ok` (R27). -/
def State.setResOk (b : Bool) (s : State) : State := { s with resOk := b }

/-- `ready` (R30). -/
def State.setReady (b : Bool) (s : State) : State := { s with ready := b }

/-- `debug` (R31). -/
def State.setDebug (b : Bool) (s : State) : State := { s with debug := b }

/-- The result registers become unspecified (70_reset_and_hazards.md R200): free values, fresh at each use
(log 3). -/
def State.freeResults (s : State) : State :=
  { s with
    resBuf := Config.freeResBuf s.draws
    resLen := Config.freeResLen s.draws
    resValue := Config.freeResValue s.draws
    resOk := Config.freeResOk s.draws
    draws := s.draws + 1 }

/-! ## Primitives -/

/-- One `LinkInit`, `Wait` or `BusWrite`: completes, or never does (R174). -/
def World.complete (w : World) : Option World :=
  match w.completions with
  | none => some w
  | some 0 => none
  | some (n + 1) => some { w with completions := some n }

/-- One `BusRead`: the peripheral's next reply, or never one (R173, R174). -/
def World.answer (w : World) : Option (Reply × World) :=
  match w.replies with
  | r :: rest => some (r, { w with replies := rest })
  | [] =>
    match w.thereafter with
    | none => none
    | some r => some (r, w)

/-- Wait for the primitive in flight: go on with `k` when it completes, else stay as it is. -/
def State.onComplete (k : State → State) (s : State) : State :=
  match s.world.complete with
  | none => s
  | some w => k (s.setWorld w)

/-- `LinkInit()` (00_scope.md R12), then `k`. -/
def State.linkInit (k : State → State) (s : State) : State :=
  s.onComplete fun s => k (s.record .linkInit)

/-- `Wait(ms)` (00_scope.md R11), then `k`. -/
def State.wait (ms : Nat) (k : State → State) (s : State) : State :=
  s.onComplete fun s => k (s.record (.wait ms))

/-- `WRITE_COMMAND(opcode, param)` (40_transport.md R81), then `k`: the frame is built, then sent. -/
def State.writeCommand (opcode param : Byte) (k : State → State) (s : State) : State :=
  (s.setFrame (commandFrame opcode param)).onComplete fun s =>
    k (s.record (.busWrite Config.busAddr s.frame.toList))

/-- `READ_REPLY(n)` (40_transport.md R83), then `k`. -/
def State.readReply (n : BitVec 6) (k : State → State) (s : State) : State :=
  match s.world.answer with
  | none => s
  | some (r, w) =>
    k (((s.setWorld w).setReply r n).record (.busRead Config.busAddr n.toNat (r.toList.take n.toNat)))

/-! ## The error condition -/

/-- Entry of `ChecksumMismatch` (60_exceptions.md R175): nothing is saved, no register changes, the next
thing is the backoff wait. -/
def State.raiseChecksumMismatch (s : State) : State := s.goTo .backoff

/-- Return from `ChecksumMismatch` (R180): back to the command write of the same operation. -/
def State.returnFromMismatch (s : State) : State := s.goTo .write

/-! ## Completion of a command -/

/-- Whether `cur_op` is a wire command run on its own (log 5). -/
def Op.isWire : Op → Bool
  | .init | .readCounts | .readConc | .readVref | .readStatus | .fanControl => true
  | .begin | .update | .getReferenceVoltage | .getStatus | .setFan | .setDebug
  | .checksummedRead | .plainRead | .write => false

/-- The command is complete: a host command presents its results in `DONE` (30_encoding.md R70), a wire
command run on its own leaves the block idle (log 5). -/
def State.complete (s : State) : State := s.goTo (if s.curOp.isWire then .idle else .done)

/-! ## Acceptance -/

/-- Acceptance of a host command (30_encoding.md R70). Not idle: not accepted, nothing changes (R197).
`not_ready` is decided before `bad_length` (60_exceptions.md R179). -/
def acceptHost (needsReady lenOk : Bool) (run : State → State) (s : State) :
    Host.Outcome State Fault Refusal :=
  if s.phase ≠ .idle then .next s
  else if needsReady && !s.ready then .refused .notReady
  else if !lenOk then .refused .badLength
  else .next (run s.freeResults)

/-- A wire command run on its own when the block is idle (log 5): it is a bus operation, so it is refused before
`BEGIN` has completed (40_transport.md R87, 70_reset_and_hazards.md R193, R194, 92_eei_decisions.md D6). -/
def acceptWire (run : State → State) (s : State) : Host.Outcome State Fault Refusal :=
  if s.phase ≠ .idle then .next s
  else if !s.ready then .refused .notReady
  else .next (run s)

/-- `DONE` -> `IDLE` (30_encoding.md R70): the results are no longer valid, so the result registers are unspecified
again (70_reset_and_hazards.md R200). -/
def State.leaveDone (s : State) : State := s.freeResults.goTo .idle

/-! ## Reset -/

/-- Reset at any time (70_reset_and_hazards.md R191): the state of R36; the command in progress is
abandoned. The other agents, the request port and the draw counter are not the block's (log 9). -/
def State.takeReset (s : State) : State :=
  { State.reset with world := s.world, pending := s.pending, draws := s.draws }

end Sys2Proof.Machine
end

