-- ==== Sys2Proof/Machine/Sequencer.lean ====
section
/-! DEFINITION. The sequencer: one function per row of the phase table of 10_state.md R28, and the running
of a command until it completes or waits for another agent. -/

namespace Sys2Proof.Machine

/-- How a command reads its reply: not at all, unchecked (42_checked_read.md R126), or checksummed (R121). -/
inductive ReplyKind where
  | none | plain | checked
  deriving DecidableEq, Repr

/-- The reply of the command in execution (44_commands.md R161). -/
def Op.replyKind : Op → ReplyKind
  | .begin | .setFan | .setDebug | .write | .init | .fanControl => .none
  | .plainRead => .plain
  | .update | .getReferenceVoltage | .getStatus | .checksummedRead => .checked
  | .readCounts | .readConc | .readVref | .readStatus => .checked

/-- Whether the command's result is `res_ok` = 1: `WRITE` (R129, R130) and `SET_FAN` (R160). -/
def Op.reportsSuccess : Op → Bool
  | .setFan | .write => true
  | .begin | .update | .getReferenceVoltage | .getStatus | .setDebug | .checksummedRead | .plainRead
  | .init | .readCounts | .readConc | .readVref | .readStatus | .fanControl => false

/-- `LINK`: perform `LinkInit()` (40_transport.md R85). -/
def stepLink (s : State) : State := s.linkInit (State.goTo .settle1)

/-- `SETTLE1`: perform `Wait(T_SETTLE1_MS)` (R85). -/
def stepSettle1 (s : State) : State := s.wait Config.tSettle1Ms (State.goTo .prime)

/-- `PRIME`: send the priming frame, the wire command INIT (R85, 44_commands.md R150). -/
def stepPrime (s : State) : State :=
  s.writeCommand Config.opInit Config.paramInit (State.goTo .settle2)

/-- `SETTLE2`: perform `Wait(T_SETTLE2_MS)`; then the driver is ready and `BEGIN` is complete (R85). -/
def stepSettle2 (s : State) : State :=
  s.wait Config.tSettle2Ms fun s => (s.setReady true).complete

/-- After the command write: the reply read is the next event (R88), or the command is complete. -/
def afterWrite (s : State) : State :=
  match s.curOp.replyKind with
  | .none => (if s.curOp.reportsSuccess then s.setResOk true else s).complete
  | .plain => s.goTo .read
  | .checked => s.goTo .read

/-- `WRITE`: `WRITE_COMMAND` from the latches (R81, 10_state.md R26). -/
def stepWrite (s : State) : State := s.writeCommand s.curOpcode s.curParam afterWrite

/-- After the reply read: a plain read is complete (R126), every other reply is checked. -/
def afterRead (s : State) : State :=
  match s.curOp.replyKind with
  | .plain => s.setResBuf.complete
  | .none => s.goTo .check
  | .checked => s.goTo .check

/-- `READ`: `READ_REPLY(cur_len)` (R83). -/
def stepRead (s : State) : State := s.readReply s.curLen afterRead

/-- `CHECK`: run the validator (41_crc16.md R111). On a match a generic read is complete and every other
command decodes (42_checked_read.md R128); on a mismatch the error condition is raised (R170). -/
def stepCheck (s : State) : State :=
  let t := s.setCrc (crcOver (payload s.reply s.bufLen.toNat))
  if s.matchFlag then
    if s.curOp = .checksummedRead then t.setResBuf.complete else t.goTo .decode
  else t.raiseChecksumMismatch

/-- `BACKOFF`: perform `Wait(T_BACKOFF_MS)`, then the same operation again (R121). -/
def stepBackoff (s : State) : State := s.wait Config.tBackoffMs State.returnFromMismatch

/-- `DECODE` after the first read of `UPDATE` (44_commands.md R156): the counts, then the second read. -/
def decodeUpdateCounts (s : State) : State :=
  (((s.setCounts (decodeCounts s.reply)).latchWire Config.opReadConc 0).latchLen Config.lenConc).goTo .write

/-- `DECODE`: decode `buf` into the arrays or the results (43_decode.md R141 to R144). The commands that
decode nothing never come here (log 15). -/
def stepDecode (s : State) : State :=
  match s.curOp with
  | .update =>
    if s.curOpcode = Config.opReadCounts then decodeUpdateCounts s
    else (s.setConc (decodeConc s.reply)).complete
  | .readCounts => (s.setCounts (decodeCounts s.reply)).complete
  | .readConc => (s.setConc (decodeConc s.reply)).complete
  | .getReferenceVoltage => (s.setResValue (decodeVref s.reply)).complete
  | .getStatus => (s.setResValue ((decodeStatus s.reply).zeroExtend 16)).complete
  | .readVref | .readStatus => s.complete
  | .begin | .setFan | .setDebug | .checksummedRead | .plainRead | .write | .init | .fanControl => s.complete

/-- One transition of the phase table (R28). `IDLE` and `DONE` are left by the step, not here. -/
def advance (s : State) : State :=
  match s.phase with
  | .idle => s
  | .link => stepLink s
  | .settle1 => stepSettle1 s
  | .prime => stepPrime s
  | .settle2 => stepSettle2 s
  | .write => stepWrite s
  | .read => stepRead s
  | .check => stepCheck s
  | .backoff => stepBackoff s
  | .decode => stepDecode s
  | .done => s

/-- n transitions. -/
def advanceN : Nat → State → State
  | 0, s => s
  | n + 1, s => advanceN n (advance s)

/-- Enough transitions for a command to use up the listed replies and to complete on the repeated one:
four to a pass, one pass per listed reply, and at most two reads on the repeated reply (log 4). -/
def transitionBudget (w : World) : Nat := 4 * (w.replies.length + 2)

/-- Run the command just started: until it completes, or waits for a primitive that does not complete, or
the listed replies are used up and the repeated one keeps failing (log 4). -/
def runCommand (s : State) : State := advanceN (transitionBudget s.world) s

/-- Start a command that only writes: load the latches and go to `WRITE`. -/
def startWrite (op : Op) (opcode param : Byte) (s : State) : State :=
  ((s.latchOp op).latchWire opcode param).goTo .write

/-- Start a command that reads: load the latches and go to `WRITE`; no parameter, so 0x00 (R26). -/
def startRead (op : Op) (opcode : Byte) (n : BitVec 6) (s : State) : State :=
  (((s.latchOp op).latchWire opcode 0).latchLen n).goTo .write

end Sys2Proof.Machine
end

