-- ==== Sys2Proof/Machine/Commands.lean ====
section
/-! DEFINITION. The host commands of the command surface (44_commands.md R156 to R160). -/

namespace Sys2Proof.Machine

/-- `UPDATE` (R156): READ_COUNTS, then READ_CONC. -/
def execUpdate (s : State) : Host.Outcome State Fault Refusal :=
  acceptHost true true
    (fun s => runCommand (startRead .update Config.opReadCounts Config.lenCounts s)) s

/-- `GET_REFERENCE_VOLTAGE` (R157): READ_VREF, then `res_value`. -/
def execGetReferenceVoltage (s : State) : Host.Outcome State Fault Refusal :=
  acceptHost true true
    (fun s => runCommand (startRead .getReferenceVoltage Config.opReadVref Config.lenVref s)) s

/-- `GET_STATUS` (R158): READ_STATUS, then `res_value`. -/
def execGetStatus (s : State) : Host.Outcome State Fault Refusal :=
  acceptHost true true
    (fun s => runCommand (startRead .getStatus Config.opReadStatus Config.lenStatus s)) s

/-- `SET_FAN on` (R160): FAN_CONTROL, then `res_ok <- 1`. -/
def execSetFan (on : Bool) (s : State) : Host.Outcome State Fault Refusal :=
  acceptHost true true
    (fun s => runCommand (startWrite .setFan Config.opFanControl (boolByte on) s)) s

/-- `SET_DEBUG enabled` (R159): no bus activity, no wait, needs no `ready`. -/
def execSetDebug (enabled : Bool) (s : State) : Host.Outcome State Fault Refusal :=
  acceptHost false true (fun s => ((s.latchOp .setDebug).setDebug enabled).complete) s

end Sys2Proof.Machine
end

