-- ==== Sys2Proof/Machine/Framer.lean ====
section
/-! DEFINITION. The generic framer operations as host commands (42_checked_read.md R120 to R130). -/

namespace Sys2Proof.Machine

/-- `CHECKSUMMED_READ opcode, reply_len` (R120, R121). -/
def execChecksummedRead (opcode len : Byte) (s : State) : Host.Outcome State Fault Refusal :=
  acceptHost true (checkedLenOk len)
    (fun s => runCommand (startRead .checksummedRead opcode (latchedLen len) s)) s

/-- `PLAIN_READ opcode, reply_len` (R125, R126). -/
def execPlainRead (opcode len : Byte) (s : State) : Host.Outcome State Fault Refusal :=
  acceptHost true (plainLenOk len)
    (fun s => runCommand (startRead .plainRead opcode (latchedLen len) s)) s

/-- `WRITE opcode, param` (R129, R130). -/
def execWrite (opcode param : Byte) (s : State) : Host.Outcome State Fault Refusal :=
  acceptHost true true (fun s => runCommand (startWrite .write opcode param s)) s

end Sys2Proof.Machine
end

