-- ==== Sys2Proof/Machine/Startup.lean ====
section
/-! DEFINITION. The startup command `BEGIN` (40_transport.md R85, R86). -/

namespace Sys2Proof.Machine

/-- Start `BEGIN`: `ready <- 0`, then the startup sequence from `LINK`. The latches hold the operands of the
priming command, its one framer-level write (30_encoding.md R75, log 8). -/
def startBegin (s : State) : State :=
  (((s.setReady false).latchOp .begin).latchWire Config.opInit Config.paramInit).goTo .link

/-- `BEGIN` (R85): accepted whenever the block is idle, ready or not (R86, R177). -/
def execBegin (s : State) : Host.Outcome State Fault Refusal :=
  acceptHost false true (fun s => runCommand (startBegin s)) s

end Sys2Proof.Machine
end

