-- ==== Sys2Proof/Machine/Wire.lean ====
section
/-! DEFINITION. The six wire commands (44_commands.md R150 to R155), each run on its own (log 5), by a ready
block (40_transport.md R87). -/

namespace Sys2Proof.Machine

/-- INIT (R150): `WRITE_COMMAND(0x10, 0x01)`. -/
def execInit (s : State) : Host.Outcome State Fault Refusal :=
  acceptWire (fun s => runCommand (startWrite .init Config.opInit Config.paramInit s)) s

/-- READ_COUNTS (R151): `CHECKSUMMED_READ(0x11, 30)`, then `DECODE_COUNTS`. -/
def execReadCounts (s : State) : Host.Outcome State Fault Refusal :=
  acceptWire (fun s => runCommand (startRead .readCounts Config.opReadCounts Config.lenCounts s)) s

/-- READ_CONC (R152): `CHECKSUMMED_READ(0x12, 32)`, then `DECODE_CONC`. -/
def execReadConc (s : State) : Host.Outcome State Fault Refusal :=
  acceptWire (fun s => runCommand (startRead .readConc Config.opReadConc Config.lenConc s)) s

/-- READ_VREF (R153): `CHECKSUMMED_READ(0x69, 4)`; the value is in the reply, "State written: scratch only". -/
def execReadVref (s : State) : Host.Outcome State Fault Refusal :=
  acceptWire (fun s => runCommand (startRead .readVref Config.opReadVref Config.lenVref s)) s

/-- READ_STATUS (R154): `CHECKSUMMED_READ(0x6A, 3)`; the value is in the reply, "State written: scratch only". -/
def execReadStatus (s : State) : Host.Outcome State Fault Refusal :=
  acceptWire (fun s => runCommand (startRead .readStatus Config.opReadStatus Config.lenStatus s)) s

/-- FAN_CONTROL p (R155): `WRITE_COMMAND(0x2B, zext_8(p))`. -/
def execFanControl (p : Bool) (s : State) : Host.Outcome State Fault Refusal :=
  acceptWire (fun s => runCommand (startWrite .fanControl Config.opFanControl (boolByte p) s)) s

end Sys2Proof.Machine
end

