-- ==== Sys2Proof/Machine/Dispatch.lean ====
section
/-! DEFINITION. The dispatch: one arm per instruction, each one call of its meaning. -/

namespace Sys2Proof.Machine

def exec (i : Instr) (s : State) : Host.Outcome State Fault Refusal :=
  match i with
  | .init => Sys2Proof.Machine.execInit s
  | .readCounts => Sys2Proof.Machine.execReadCounts s
  | .readConc => Sys2Proof.Machine.execReadConc s
  | .readVref => Sys2Proof.Machine.execReadVref s
  | .readStatus => Sys2Proof.Machine.execReadStatus s
  | .fanControl p => Sys2Proof.Machine.execFanControl p s
  | .begin => Sys2Proof.Machine.execBegin s
  | .update => Sys2Proof.Machine.execUpdate s
  | .getReferenceVoltage => Sys2Proof.Machine.execGetReferenceVoltage s
  | .getStatus => Sys2Proof.Machine.execGetStatus s
  | .setFan on => Sys2Proof.Machine.execSetFan on s
  | .setDebug enabled => Sys2Proof.Machine.execSetDebug enabled s
  | .checksummedRead opcode len => Sys2Proof.Machine.execChecksummedRead opcode len s
  | .plainRead opcode len => Sys2Proof.Machine.execPlainRead opcode len s
  | .write opcode param => Sys2Proof.Machine.execWrite opcode param s

end Sys2Proof.Machine
end

