-- ==== Sys2Proof/Machine/Fetch.lean ====
section
/-! DEFINITION. Taking the word on the request port and running it (30_encoding.md R70 to R72), and putting
a table word there. The block has no instruction memory (20_memory.md R40): the request port is where its
next instruction stands (log 11). -/

namespace Sys2Proof.Machine

/-- The reason a word that is no instruction is refused (R72). When the block is not ready either, the reason is
`not_ready` (60_exceptions.md R179, 92_eei_decisions.md D6). -/
def refusalOf (ready : Bool) (e : DecodeError) : Refusal :=
  if !ready then .notReady
  else
    match e with
    | .reservedRequest => .reservedRequest
    | .unknownFrame => .unknownFrame

/-- The word leaves the port when the block takes it. -/
def State.takePending (s : State) : State := { s with pending := none }

/-- The step in `IDLE`: run the word on the request port; with none, go on waiting
(70_reset_and_hazards.md R190). -/
def runPending (s : State) : Host.Outcome State Fault Refusal :=
  match s.pending with
  | none => .next s
  | some c =>
    match decode c with
    | .ok i => exec i s.takePending
    | .error e => .refused (refusalOf s.ready e)

/-- Put a table word on the request port of a block that will take it at its next step (log 11). -/
def State.placeTableWord (s : State) (nbits w : Nat) : State :=
  { s with pending := codeOfTableWord nbits w, phase := .idle, resetRequest := false }

end Sys2Proof.Machine
end

