-- ==== Sys2Proof/Machine/Step.lean ====
section
/-! DEFINITION. One step of the machine, and placing the next instruction. -/

namespace Sys2Proof.Machine

/-- One step. A reset request goes before everything (70_reset_and_hazards.md R191). In `IDLE` the block
takes a request (30_encoding.md R70); from `DONE` it returns to `IDLE`; in every other phase the command in
execution goes on by one transition of the phase table (10_state.md R28). -/
def step (s : State) : Host.Outcome State Fault Refusal :=
  if s.resetRequest then .next s.takeReset
  else
    match s.phase with
    | .idle => runPending s
    | .done => .next s.leaveDone
    | .link | .settle1 | .prime | .settle2 | .write | .read | .check | .backoff | .decode =>
      .next (advance s)

/-- The state with a table word where `step` takes its next instruction (log 11). -/
def State.withFetchWord (s : State) (nbits w : Nat) : State := s.placeTableWord nbits w

end Sys2Proof.Machine
end

