-- ==== Sys2Proof/Safety.lean ====
section
/-! DEFINITION. The terms claims about the machine are stated in: what the other agents supply, the events a
command causes, the invariant of the block, and which readings are genuine. -/

namespace Sys2Proof.Machine

/-! ## What the other agents supply -/

/-- At least `k` more `LinkInit`, `Wait` and `BusWrite` complete (42_checked_read.md R131, a premise). -/
def World.allows (k : Nat) (w : World) : Prop := ∀ n, w.completions = some n → k ≤ n

/-- The world after `k` such completions. -/
def World.afterCompletions (k : Nat) (w : World) : World :=
  { w with completions := w.completions.map (· - k) }

/-- The next `n` replies of the peripheral, and the world after them; none if it does not give so many. -/
def World.draw : Nat → World → Option (List Reply × World)
  | 0, w => some ([], w)
  | n + 1, w =>
    match w.answer with
    | none => none
    | some (r, w') => (World.draw n w').map fun p => (r :: p.1, p.2)

/-- The bytes a read of `n` bytes delivers of a reply. -/
def firstBytes (r : Reply) (n : Nat) : List Byte := r.toList.take n

/-- The reply is checksum-valid when read with length `n` (30_encoding.md R77). -/
def ReplyValid (n : Nat) (r : Reply) : Prop := checksumValid (firstBytes r n)

/-- The peripheral gives exactly these replies to the next reads of length `n`: `bad` ones that are not
checksum-valid, then a `good` one that is; `w'` is the world after them (R122, N = `bad.length`). -/
def World.Gives (w : World) (n : Nat) (bad : List Reply) (good : Reply) (w' : World) : Prop :=
  w.draw (bad.length + 1) = some (bad ++ [good], w') ∧ (∀ r ∈ bad, ¬ ReplyValid n r) ∧ ReplyValid n good

/-- No reply the peripheral will ever give is checksum-valid when read with length `n` (R123). -/
def World.NeverValid (n : Nat) (w : World) : Prop :=
  (∀ r ∈ w.replies, ¬ ReplyValid n r) ∧ ∀ r, w.thereafter = some r → ¬ ReplyValid n r

/-! ## The events of a command -/

/-- The write event of a command: `BusWrite(0x4B, [opcode, param, 0, 0, 0, 0, 0, 0])` (R61, R81). -/
def sent (opcode param : Byte) : Event := .busWrite 0x4B [opcode, param, 0, 0, 0, 0, 0, 0]

/-- The read event of a reply of `n` bytes (R83). -/
def received (n : Nat) (r : Reply) : Event := .busRead 0x4B n (firstBytes r n)

/-- The events of one checksummed read (42_checked_read.md R122): for each failed pass a write, a read and a
wait of 1000 ms; then a write and a read. -/
def readEvents (opcode : Byte) (n : Nat) (bad : List Reply) (good : Reply) : List Event :=
  bad.flatMap (fun r => [sent opcode 0, received n r, .wait 1000]) ++ [sent opcode 0, received n good]

/-- The milliseconds of all `Wait` events of a trace: the least duration of what it records (R207). -/
def waitedMs (t : List Event) : Nat :=
  (t.map fun e => match e with | .wait ms => ms | .linkInit | .busWrite _ _ | .busRead _ _ _ => 0).sum

/-- The scratch state and the trace after a checksummed read of `opcode` with length `n` for the command
`op`, with the world `w'` left by the replies: the latches (R26), `frame` (R24), `buf` (R25), `crc` (R23),
`Trace` (R122), and 2N + 1 completions used. Nothing else is written. -/
def State.afterRead (op : Op) (opcode : Byte) (n : BitVec 6) (bad : List Reply) (good : Reply) (w' : World)
    (s : State) : State :=
  { s with
    curOp := op, curOpcode := opcode, curParam := 0, curLen := n
    frame := #v[opcode, 0, 0, 0, 0, 0, 0, 0]
    buf := overwrite s.buf good n.toNat
    bufLen := n
    crc := crcOver (firstBytes good (n.toNat - 2))
    trace := s.trace ++ readEvents opcode n.toNat bad good
    world := w'.afterCompletions (2 * bad.length + 1) }

/-- The scratch state and the trace after a command that sends one frame and reads nothing. -/
def State.afterWrite (op : Op) (opcode param : Byte) (s : State) : State :=
  { s with
    curOp := op, curOpcode := opcode, curParam := param
    frame := #v[opcode, param, 0, 0, 0, 0, 0, 0]
    trace := s.trace ++ [sent opcode param]
    world := s.world.afterCompletions 1 }

/-! ## The invariant of the block -/

/-- An event the block can cause: the one bus address (20_memory.md R41), frames of 8 bytes with zero padding
(R61), replies of exactly the length asked for (R50), the three waits (60_exceptions.md R182). -/
def Event.wellFormed : Event → Prop
  | .linkInit => True
  | .wait ms => ms = Config.tSettle1Ms ∨ ms = Config.tSettle2Ms ∨ ms = Config.tBackoffMs
  | .busWrite addr bytes =>
    addr = Config.busAddr ∧ bytes.length = Config.frameLen ∧ bytes.drop 2 = [0, 0, 0, 0, 0, 0]
  | .busRead addr n r =>
    addr = Config.busAddr ∧ r.length = n ∧ 1 ≤ n ∧ n ≤ Config.maxReplyLen

/-- Every read is directly preceded by a write (20_memory.md R51, 40_transport.md R88). -/
def ReadsFollowWrites (t : List Event) : Prop :=
  ∀ pre addr n r post, t = pre ++ .busRead addr n r :: post →
    ∃ a bytes, pre.getLast? = some (.busWrite a bytes)

/-- The block is in the startup sequence (40_transport.md R85). -/
def Phase.isStartup : Phase → Bool
  | .link | .settle1 | .prime | .settle2 => true
  | .idle | .write | .read | .check | .backoff | .decode | .done => false

/-- The block is in the framer's loop (42_checked_read.md R128). -/
def Phase.isFramer : Phase → Bool
  | .write | .read | .check | .backoff | .decode => true
  | .idle | .link | .settle1 | .prime | .settle2 | .done => false

/-- The operands a command has in the latches while it runs (10_state.md R26, 30_encoding.md R66). -/
def State.LatchesOk (s : State) : Prop :=
  match s.curOp with
  | .begin | .setDebug => False
  | .update => s.curParam = 0 ∧
      ((s.curOpcode = 0x11 ∧ s.curLen = 30) ∨ (s.curOpcode = 0x12 ∧ s.curLen = 32))
  | .readCounts => s.curParam = 0 ∧ s.curOpcode = 0x11 ∧ s.curLen = 30
  | .readConc => s.curParam = 0 ∧ s.curOpcode = 0x12 ∧ s.curLen = 32
  | .getReferenceVoltage | .readVref => s.curParam = 0 ∧ s.curOpcode = 0x69 ∧ s.curLen = 4
  | .getStatus | .readStatus => s.curParam = 0 ∧ s.curOpcode = 0x6A ∧ s.curLen = 3
  | .setFan | .fanControl => s.curOpcode = 0x2B ∧ (s.curParam = 0 ∨ s.curParam = 1)
  | .init => s.curOpcode = 0x10 ∧ s.curParam = 1
  | .checksummedRead => s.curParam = 0 ∧ 2 ≤ s.curLen.toNat ∧ s.curLen.toNat ≤ 32
  | .plainRead => s.curParam = 0 ∧ 1 ≤ s.curLen.toNat ∧ s.curLen.toNat ≤ 32
  | .write => True

/-- The invariant of the block: every reachable state has it. -/
structure State.Inv (s : State) : Prop where
  /-- Every event of the trace is one the block can cause. -/
  events : ∀ e ∈ s.trace, e.wellFormed
  /-- Every read of the trace directly follows a write. -/
  paired : ReadsFollowWrites s.trace
  /-- About to read, the last event is a write (R88). -/
  readNext : s.phase = .read → ∃ a bytes, s.trace.getLast? = some (.busWrite a bytes)
  /-- In the startup sequence the command is `BEGIN` and the driver is not ready (R85). -/
  startup : s.phase.isStartup = true → s.curOp = .begin ∧ s.ready = false
  /-- In the framer's loop the driver is ready (R87). -/
  framerReady : s.phase.isFramer = true → s.ready = true
  /-- In the framer's loop the latches hold the operands of the command. -/
  latches : s.phase.isFramer = true → s.LatchesOk
  /-- Past the write, the command reads a reply. -/
  reads : s.phase.isFramer = true → s.phase ≠ .write → s.curOp.replyKind ≠ .none
  /-- Past the read, the reply is checksummed, and `buf` holds the reply just read. -/
  inBuf : s.phase = .check ∨ s.phase = .decode →
    s.curOp.replyKind = .checked ∧ s.bufLen = s.curLen ∧
      s.trace.getLast? = some (.busRead Config.busAddr s.curLen.toNat s.reply)
  /-- In the backoff wait, the command is a checksummed read. -/
  backing : s.phase = .backoff → s.curOp.replyKind = .checked
  /-- A reply is decoded only if it is checksum-valid (43_decode.md R140). -/
  decoded : s.phase = .decode → s.matchFlag = true ∧ s.curOp ≠ .checksummedRead

/-- The readings are genuine: each array is all zero (R36) or was decoded from one checksum-valid reply that
was read on the bus (10_state.md R21, R22, 43_decode.md R140). -/
def State.Genuine (s : State) : Prop :=
  (s.particleCounts = Vector.replicate 7 0 ∨
    ∃ r, .busRead 0x4B 30 r ∈ s.trace ∧ checksumValid r ∧ s.particleCounts = decodeCounts r) ∧
  (s.massConcentrations = Vector.replicate 7 0 ∨
    ∃ r, .busRead 0x4B 32 r ∈ s.trace ∧ checksumValid r ∧ s.massConcentrations = decodeConc r)

/-- The primitive of the current phase does not complete (60_exceptions.md R174; of a `Wait`, log 13). -/
def State.Held (s : State) : Prop :=
  s.phase ∈ [.link, .settle1, .prime, .settle2, .write, .backoff] ∧ s.world.completions = some 0 ∨
    s.phase = .read ∧ s.world.draw 1 = none

/-- The events a block may cause before it is ready: those of the startup sequence (40_transport.md R85, R87). -/
def Event.isStartup (e : Event) : Prop :=
  e = .linkInit ∨ e = .wait 100 ∨ e = sent 0x10 0x01 ∨ e = .wait 1000

/-- Both reading arrays are the same. -/
def SameReadings (s t : State) : Prop :=
  t.particleCounts = s.particleCounts ∧ t.massConcentrations = s.massConcentrations

end Sys2Proof.Machine

namespace Sys2Proof

/-- The instruction may write a reading array: `UPDATE` and the two wire commands it performs
(10_state.md R37, 44_commands.md R151, R152). -/
def Instr.writesReadings : Instr → Bool
  | .update | .readCounts | .readConc => true
  | .init | .readVref | .readStatus | .fanControl _ | .begin | .getReferenceVoltage | .getStatus
  | .setFan _ | .setDebug _ | .checksummedRead _ _ | .plainRead _ _ | .write _ _ => false

/-- The instruction is a host command (30_encoding.md R71), not a wire command. -/
def Instr.isHost : Instr → Bool
  | .init | .readCounts | .readConc | .readVref | .readStatus | .fanControl _ => false
  | .begin | .update | .getReferenceVoltage | .getStatus
  | .setFan _ | .setDebug _ | .checksummedRead _ _ | .plainRead _ _ | .write _ _ => true

/-- The command needs a ready driver: every one but `BEGIN` and `SET_DEBUG` (60_exceptions.md R177, 40_transport.md R87,
92_eei_decisions.md D6). -/
def Instr.needsReady : Instr → Bool
  | .update | .getReferenceVoltage | .getStatus
  | .setFan _ | .checksummedRead _ _ | .plainRead _ _ | .write _ _ => true
  | .init | .readCounts | .readConc | .readVref | .readStatus | .fanControl _ => true
  | .begin | .setDebug _ => false

end Sys2Proof
end

