-- ==== Sys2Proof/Certificates/Slice0/Obligations.lean ====
section
/-! DEFINITION. The statements for the provers. Each names the rule of the spec it formalises. -/

open Sys2Proof Sys2Proof.Machine

/-! ## Encoding -/

/-- Decoding the word of an instruction gives the instruction back, with every operand at every value
(30_encoding.md R61, R66, R71). -/
def Obligations.DecodeOfEncodeIsTheInstruction : Prop :=
  ∀ i : Instr, decode (encode i) = .ok i

/-- A frame image means one wire command only: whatever image decodes is the one the encoder writes, so every
other image is refused (R66). That the model decodes frame images is its own choice (log 5). -/
def Obligations.OnlyTheSixFramesDecode : Prop :=
  ∀ (w : BitVec 64) (i : Instr), decodeFrame w = .ok i → encode i = .frame w

/-- The fields of a request word select the command by `op`, its operands are `a` and `b`, only bit 0 of `b` is
an operand of SET_FAN and SET_DEBUG, and an ignored field may hold any value (R71, R72). -/
def Obligations.RequestWordFields : Prop :=
  ∀ a b : Byte,
    decodeRequest (0x0#4 ++ a ++ b) = .ok .begin ∧
    decodeRequest (0x1#4 ++ a ++ b) = .ok .update ∧
    decodeRequest (0x2#4 ++ a ++ b) = .ok .getReferenceVoltage ∧
    decodeRequest (0x3#4 ++ a ++ b) = .ok .getStatus ∧
    decodeRequest (0x4#4 ++ a ++ b) = .ok (.setFan (decide (b.toNat % 2 = 1))) ∧
    decodeRequest (0x5#4 ++ a ++ b) = .ok (.setDebug (decide (b.toNat % 2 = 1))) ∧
    decodeRequest (0x6#4 ++ a ++ b) = .ok (.checksummedRead a b) ∧
    decodeRequest (0x7#4 ++ a ++ b) = .ok (.plainRead a b) ∧
    decodeRequest (0x8#4 ++ a ++ b) = .ok (.write a b)

/-- Words written out from the tables of R66 and R71 decode to the instruction they stand for. -/
def Obligations.WrittenOutWordsDecode : Prop :=
  decodeTableWord 64 0x1001000000000000 = some .init ∧
  decodeTableWord 64 0x1200000000000000 = some .readConc ∧
  decodeTableWord 64 0x2B01000000000000 = some (.fanControl true) ∧
  decodeTableWord 64 0x1000000000000000 = none ∧
  decodeTableWord 24 0x00000 = some .begin ∧
  decodeTableWord 24 0x400FE = some (.setFan false) ∧
  decodeTableWord 24 0x6111E = some (.checksummedRead 0x11 30) ∧
  decodeTableWord 24 0x82B01 = some (.write 0x2B 0x01) ∧
  decodeTableWord 24 0x90000 = none

/-! ## The CRC unit and the validator -/

/-- `CRC_BIT` as a shift register: the sixteen equations of 41_crc16.md R103. -/
def Obligations.CrcBitIsTheSixteenEquations : Prop :=
  ∀ (crc : CrcWord) (d : Bool),
    let fb := crc.getLsbD 0 ^^ d
    let n := crcBit crc d
    n.getLsbD 15 = fb ∧ n.getLsbD 14 = crc.getLsbD 15 ∧ n.getLsbD 13 = crc.getLsbD 14 ∧
    n.getLsbD 12 = crc.getLsbD 13 ∧ n.getLsbD 11 = crc.getLsbD 12 ∧
    n.getLsbD 10 = (crc.getLsbD 11 ^^ fb) ∧ n.getLsbD 9 = crc.getLsbD 10 ∧
    n.getLsbD 8 = crc.getLsbD 9 ∧ n.getLsbD 7 = crc.getLsbD 8 ∧ n.getLsbD 6 = crc.getLsbD 7 ∧
    n.getLsbD 5 = crc.getLsbD 6 ∧ n.getLsbD 4 = crc.getLsbD 5 ∧
    n.getLsbD 3 = (crc.getLsbD 4 ^^ fb) ∧ n.getLsbD 2 = crc.getLsbD 3 ∧
    n.getLsbD 1 = crc.getLsbD 2 ∧ n.getLsbD 0 = crc.getLsbD 1

/-- `CRC16(s)` written out as one pass over bits (41_crc16.md R101, R104, R105, R106): from 0xFFFF, `CRC_BIT` for each
bit of each byte in index order, low bit first; then the complement with its two bytes exchanged. -/
def Obligations.CrcIsOnePassOverTheBits : Prop :=
  ∀ s : List Byte,
    let bits := s.flatMap fun b => [b.getLsbD 0, b.getLsbD 1, b.getLsbD 2, b.getLsbD 3,
      b.getLsbD 4, b.getLsbD 5, b.getLsbD 6, b.getLsbD 7]
    let c := ~~~ bits.foldl crcBit 0xFFFF
    crc16 s = c.extractLsb' 0 8 ++ c.extractLsb' 8 8

/-- The validator (R110, R111) on a reply of payload p and two more bytes: `received` is those two bytes, the first
the high one; `match` is 1 exactly when the checksum of p is that value. -/
def Obligations.ValidatorComparesTheTrailer : Prop :=
  ∀ (p : List Byte) (hi lo : Byte),
    valReceived (p ++ [hi, lo]) (p.length + 2) = hi ++ lo ∧
    (valCheck (p ++ [hi, lo]) (p.length + 2) = true ↔ crc16 p = hi ++ lo)

/-- The byte-at-once form of `CRC_BYTE` (R108 (a)): the table entry is what `CRC_BYTE(0x00)` leaves from the
low byte of the register XOR the data byte. -/
def Obligations.CrcByteAtOnce : Prop :=
  ∀ (crc : CrcWord) (b : Byte),
    crcByte crc b = (crc >>> 8) ^^^ crcByte (((crc ^^^ b.zeroExtend 16).setWidth 8).zeroExtend 16) 0

/-- Running the register over a checksum-valid reply, trailer included, leaves the residue 0xF0B8
(R108 (b)). -/
def Obligations.ValidReplyLeavesTheResidue : Prop :=
  ∀ s : List Byte, checksumValid s → crcOver s = 0xF0B8

/-- Any single-bit change of a checksum-valid reply, in payload or trailer, makes it invalid (R108 (c)). -/
def Obligations.SingleBitChangeIsDetected : Prop :=
  ∀ (s : List Byte) (k : Nat) (j : Fin 8) (b : Byte),
    checksumValid s → s[k]? = some b → ¬ checksumValid (s.set k (b ^^^ BitVec.twoPow 8 j))

/-- For any payload there is exactly one checksum-valid reply that begins with it and has two bytes more:
its trailer is `t[15:8]`, `t[7:0]` with `t` the checksum of the payload (30_encoding.md R77). -/
def Obligations.OneValidTrailerPerPayload : Prop :=
  ∀ p t : List Byte, t.length = 2 →
    (checksumValid (p ++ t) ↔ t = [(crc16 p).extractLsb' 8 8, (crc16 p).extractLsb' 0 8])

/-- The comparison seen byte by byte (41_crc16.md R112): the first trailer byte is the low byte of the
complemented register, the second its high byte. -/
def Obligations.MatchSeenByteByByte : Prop :=
  ∀ (s : List Byte) (len : Nat) (hi lo : Byte),
    2 ≤ len → s[len - 2]? = some hi → s[len - 1]? = some lo →
    (valCheck s len = true ↔
      hi = (~~~ crcOver (s.take (len - 2))).extractLsb' 0 8 ∧
      lo = (~~~ crcOver (s.take (len - 2))).extractLsb' 8 8)

/-- The port of the CRC unit, driven in the order of R114 (one clear, the payload bytes in index order, then `match`
sampled against the trailer; one byte a step is log 21), answers what the validator answers on the whole reply (R111, R115). -/
def Obligations.CrcPortAgreesWithTheValidator : Prop :=
  ∀ (s : List Byte) (len : Nat) (crc : CrcWord) (din : Byte),
    crcPortMatch (trailer s len)
      ((s.take (len - 2)).foldl (fun c b => crcPortStep false true b c) (crcPortStep true false din crc)) =
      valCheck s len

/-! ## The decoder -/

/-- `DECODE_COUNTS` (43_decode.md R141): element i is the unsigned number whose digits in base 256 are the four
bytes at 4i, the first most significant. -/
def Obligations.CountsAreBigEndian : Prop :=
  ∀ (s : List Byte) (i : Fin 7) (b0 b1 b2 b3 : Byte),
    s[4 * i.val]? = some b0 → s[4 * i.val + 1]? = some b1 →
    s[4 * i.val + 2]? = some b2 → s[4 * i.val + 3]? = some b3 →
    (decodeCounts s)[i].toNat =
      b0.toNat * 2 ^ 24 + b1.toNat * 2 ^ 16 + b2.toNat * 2 ^ 8 + b3.toNat

/-- `DECODE_CONC` (R142): element i is exactly `buf[4i+3] ++ buf[4i+2] ++ buf[4i+1] ++ buf[4i]`. -/
def Obligations.ConcentrationsAreLittleEndianVerbatim : Prop :=
  ∀ (s : List Byte) (i : Fin 7) (b0 b1 b2 b3 : Byte),
    s[4 * i.val]? = some b0 → s[4 * i.val + 1]? = some b1 →
    s[4 * i.val + 2]? = some b2 → s[4 * i.val + 3]? = some b3 →
    (decodeConc s)[i] = b3 ++ b2 ++ b1 ++ b0

/-- The decoder ignores the trailer, and bytes 28 and 29 of the concentrations reply (R146): replies that agree
on the decoded bytes decode alike. -/
def Obligations.DecoderIgnoresSlackAndTrailer : Prop :=
  ∀ s t : List Byte,
    (s.take 28 = t.take 28 → decodeCounts s = decodeCounts t ∧ decodeConc s = decodeConc t) ∧
    (s.take 2 = t.take 2 → decodeVref s = decodeVref t) ∧
    (s.take 1 = t.take 1 → decodeStatus s = decodeStatus t)

/-- The integers handed to the host (R148): the status pattern zero-extended, 0 to 255; the reference voltage the
unsigned value of the pattern where `VREF_SIGNED` is false, the two's complement value where it is true, the two
agreeing below 0x8000. -/
def Obligations.HostIntegers : Prop :=
  (∀ b : Byte, hostStatus (b.zeroExtend 16) = b.toNat) ∧
  (∀ p : Word16, hostVref p =
    if Config.vrefSigned = true ∧ 0x8000 ≤ p.toNat then (p.toNat : Int) - 2 ^ 16 else (p.toNat : Int))

/-! ## What each command does

Each statement gives the whole next state, so it is the command's frame too: a field it does not name is
unchanged. Four parts are the model's choice, in every statement of this section: `freeResults`, the free values of
the result registers a command has no result in (log 3); `world`, the other agents (log 2); which latches a command
without wire operands loads (log 8); and, of a command that reads, the value of `crc` at the end and the bytes of
`buf` and `res_buf` above the length read, which the spec gives no meaning (log 7). -/

/-- `BEGIN` (40_transport.md R85), in any idle state, ready or not (R86): the startup sequence in order, `ready` set
by its end. Where only k < 4 of its primitives complete, it is held after the k-th event with `ready` = 0: R85 and R174
(60_exceptions.md) say so of `LinkInit` and the `BusWrite`; that a `Wait` too may never end is log 13, and that `exec` of a
command which is held answers a busy next state is log 4, both the model's choice. -/
def Obligations.BeginRunsTheStartupSequence : Prop :=
  ∀ s : State, s.phase = .idle →
    (s.world.allows 4 →
      exec .begin s = .next { s.freeResults with
        curOp := .begin, curOpcode := 0x10, curParam := 0x01
        frame := #v[0x10, 0x01, 0, 0, 0, 0, 0, 0]
        trace := s.trace ++ [.linkInit, .wait 100, sent 0x10 0x01, .wait 1000]
        world := s.world.afterCompletions 4
        ready := true
        phase := .done }) ∧
    (∀ k, s.world.completions = some k → k < 4 →
      ∃ t, exec .begin s = .next t ∧ t.ready = false ∧ t.busy = true ∧ SameReadings s t ∧
        t.trace = s.trace ++ [.linkInit, .wait 100, sent 0x10 0x01, .wait 1000].take k)

/-- The two wire commands that only write, INIT (44_commands.md R150) and FAN_CONTROL (R155): each completes when the
block is ready, and is refused when it is not (40_transport.md R87, 70_reset_and_hazards.md R193, R194). Running one on
its own, from `IDLE` to `IDLE`, is the model's choice (log 5). -/
def Obligations.WritingWireCommandsComplete : Prop :=
  ∀ (s : State) (p : Bool), s.phase = .idle →
    (s.ready = true → s.world.allows 1 →
      exec .init s = .next (s.afterWrite .init 0x10 0x01) ∧
      exec (.fanControl p) s = .next (s.afterWrite .fanControl 0x2B (if p then 0x01 else 0x00))) ∧
    (s.ready = false →
      exec .init s = .refused .notReady ∧ exec (.fanControl p) s = .refused .notReady)

/-- `SET_FAN` (R160): a single write of opcode 0x2B, parameter 0x01 for true and 0x00 for false; reports
success. The other result registers are free (log 3). -/
def Obligations.SetFanCompletes : Prop :=
  ∀ (s : State) (on : Bool), s.phase = .idle → s.ready = true → s.world.allows 1 →
    exec (.setFan on) s = .next { s.freeResults.afterWrite .setFan 0x2B (if on then 0x01 else 0x00) with
      resOk := true, phase := .done }

/-- `WRITE` (42_checked_read.md R129, R130): a single write of any opcode and parameter; reports success; refused
when not ready. -/
def Obligations.WriteCompletes : Prop :=
  ∀ (s : State) (opcode param : Byte), s.phase = .idle →
    (s.ready = true → s.world.allows 1 →
      exec (.write opcode param) s = .next { s.freeResults.afterWrite .write opcode param with
        resOk := true, phase := .done }) ∧
    (s.ready = false → exec (.write opcode param) s = .refused .notReady)

/-- `SET_DEBUG` (44_commands.md R159): the flag is set to the argument; no bus activity, no wait, no need of
`ready`. -/
def Obligations.SetDebugCompletes : Prop :=
  ∀ (s : State) (enabled : Bool), s.phase = .idle →
    exec (.setDebug enabled) s = .next { s.freeResults with
      curOp := .setDebug, debug := enabled, phase := .done }

/-- `CHECKSUMMED_READ` (42_checked_read.md R121, R122): after N replies that are not checksum-valid and one that
is, N + 1 writes, N + 1 reads and N waits in order, and the last reply returned whole. `crc` at the end and the bytes
of `buf` and `res_buf` above the length are log 7. -/
def Obligations.ChecksummedReadCompletes : Prop :=
  ∀ (s : State) (opcode len : Byte) (bad : List Reply) (good : Reply) (w : World),
    s.phase = .idle → s.ready = true → 2 ≤ len.toNat → len.toNat ≤ 32 →
    s.world.Gives len.toNat bad good w → s.world.allows (2 * bad.length + 1) →
    exec (.checksummedRead opcode len) s = .next
      { s.freeResults.afterRead .checksummedRead opcode (BitVec.ofNat 6 len.toNat) bad good w with
        resBuf := overwrite s.freeResults.resBuf good len.toNat
        resLen := BitVec.ofNat 6 len.toNat
        phase := .done }

/-- `PLAIN_READ` (R126): one write, one read, the reply returned whatever it is; no checksum is computed. The bytes of
`buf` and `res_buf` above the length are log 7. -/
def Obligations.PlainReadCompletes : Prop :=
  ∀ (s : State) (opcode len : Byte) (r : Reply) (w : World),
    s.phase = .idle → s.ready = true → 1 ≤ len.toNat → len.toNat ≤ 32 →
    s.world.draw 1 = some ([r], w) → s.world.allows 1 →
    exec (.plainRead opcode len) s = .next { s.freeResults with
      curOp := .plainRead, curOpcode := opcode, curParam := 0, curLen := BitVec.ofNat 6 len.toNat
      frame := #v[opcode, 0, 0, 0, 0, 0, 0, 0]
      buf := overwrite s.buf r len.toNat
      bufLen := BitVec.ofNat 6 len.toNat
      resBuf := overwrite s.freeResults.resBuf r len.toNat
      resLen := BitVec.ofNat 6 len.toNat
      trace := s.trace ++ [sent opcode 0, received len.toNat r]
      world := w.afterCompletions 1
      phase := .done }

/-- `GET_REFERENCE_VOLTAGE` (44_commands.md R157): the result is the first two bytes of the valid reply, high
byte first. `crc` at the end and the bytes of `buf` above 4 are log 7. -/
def Obligations.GetReferenceVoltageCompletes : Prop :=
  ∀ (s : State) (bad : List Reply) (good : Reply) (w : World),
    s.phase = .idle → s.ready = true → s.world.Gives 4 bad good w → s.world.allows (2 * bad.length + 1) →
    exec .getReferenceVoltage s = .next
      { s.freeResults.afterRead .getReferenceVoltage 0x69 4 bad good w with
        resValue := good[0] ++ good[1]
        phase := .done }

/-- `GET_STATUS` (R158): the result is the first byte of the valid reply, zero-extended. `crc` at the end and the bytes of
`buf` above 3 are log 7. -/
def Obligations.GetStatusCompletes : Prop :=
  ∀ (s : State) (bad : List Reply) (good : Reply) (w : World),
    s.phase = .idle → s.ready = true → s.world.Gives 3 bad good w → s.world.allows (2 * bad.length + 1) →
    exec .getStatus s = .next
      { s.freeResults.afterRead .getStatus 0x6A 3 bad good w with
        resValue := good[0].zeroExtend 16
        phase := .done }

/-- The four wire commands that read (R151 to R154): READ_COUNTS and READ_CONC decode the valid reply into their
array; READ_VREF and READ_STATUS write scratch state only, the value standing in `buf`. Running one on its own is the
model's choice (log 5); `crc` at the end and the bytes of `buf` above the length are log 7. -/
def Obligations.ReadingWireCommandsComplete : Prop :=
  ∀ (s : State) (bad : List Reply) (good : Reply) (w : World),
    s.phase = .idle → s.ready = true → s.world.allows (2 * bad.length + 1) →
    (s.world.Gives 30 bad good w → exec .readCounts s = .next
      { s.afterRead .readCounts 0x11 30 bad good w with
        particleCounts := decodeCounts (firstBytes good 30) }) ∧
    (s.world.Gives 32 bad good w → exec .readConc s = .next
      { s.afterRead .readConc 0x12 32 bad good w with
        massConcentrations := decodeConc (firstBytes good 32) }) ∧
    (s.world.Gives 4 bad good w → exec .readVref s = .next (s.afterRead .readVref 0x69 4 bad good w)) ∧
    (s.world.Gives 3 bad good w → exec .readStatus s = .next (s.afterRead .readStatus 0x6A 3 bad good w))

/-- `UPDATE` (R156): READ_COUNTS to completion, then READ_CONC to completion, each with its own retry loop; each
array is decoded from its own valid reply. `crc` at the end is log 7; `buf` holds the second reply whole. -/
def Obligations.UpdateCompletes : Prop :=
  ∀ (s : State) (bad₁ bad₂ : List Reply) (good₁ good₂ : Reply) (w₁ w₂ : World),
    s.phase = .idle → s.ready = true →
    s.world.Gives 30 bad₁ good₁ w₁ → w₁.Gives 32 bad₂ good₂ w₂ →
    s.world.allows (2 * bad₁.length + 2 * bad₂.length + 2) →
    exec .update s = .next
      { (s.freeResults.afterRead .update 0x11 30 bad₁ good₁ w₁).afterRead .update 0x12 32 bad₂ good₂
          (w₂.afterCompletions (2 * bad₁.length + 1)) with
        particleCounts := decodeCounts (firstBytes good₁ 30)
        massConcentrations := decodeConc (firstBytes good₂ 32)
        phase := .done }

/-- Between the two reads of `UPDATE` (R156 (a), 70_reset_and_hazards.md R198): while no reply of the second
read is valid, the counts are new, the concentrations are old, and the command is not complete. That `exec` of a command
which keeps failing answers a next state, a busy one, is the model's choice (log 4). -/
def Obligations.UpdateArraysAreNotWrittenTogether : Prop :=
  ∀ (s : State) (bad : List Reply) (good : Reply) (w : World),
    s.phase = .idle → s.ready = true → s.world.Gives 30 bad good w →
    s.world.allows (2 * bad.length + 1) → w.NeverValid 32 →
    ∃ t, exec .update s = .next t ∧ t.particleCounts = decodeCounts (firstBytes good 30) ∧
      t.massConcentrations = s.massConcentrations ∧ t.busy = true ∧ t.done = false

/-- The waits of a command that has completed (R207): `UPDATE` with N1 and N2 failed passes waits (N1 + N2) × 1000
ms, `BEGIN` 1100 ms. -/
def Obligations.LeastDurations : Prop :=
  (∀ s t : State, s.phase = .idle → exec .begin s = .next t → t.done = true →
    waitedMs t.trace = waitedMs s.trace + 1100) ∧
  (∀ (s t : State) (bad₁ bad₂ : List Reply) (good₁ good₂ : Reply) (w₁ w₂ : World),
    s.phase = .idle → s.ready = true →
    s.world.Gives 30 bad₁ good₁ w₁ → w₁.Gives 32 bad₂ good₂ w₂ → exec .update s = .next t → t.done = true →
    waitedMs t.trace = waitedMs s.trace + (bad₁.length + bad₂.length) * 1000)

/-! ## Refusals and requests that are not accepted -/

/-- `Refuse(not_ready)` (60_exceptions.md R177) for every host command but `BEGIN` and `SET_DEBUG`, whatever the
operands: it goes before `bad_length` (R179). -/
def Obligations.NotReadyIsRefused : Prop :=
  ∀ (i : Instr) (s : State), i.isHost = true → i ≠ .begin → (∀ e, i ≠ .setDebug e) →
    s.phase = .idle → s.ready = false → exec i s = .refused .notReady

/-- Before `BEGIN` has completed nothing but `BEGIN` and `SET_DEBUG` is accepted (70_reset_and_hazards.md R193,
92_eei_decisions.md D6): every other word on the request port is refused with `not_ready`, a reserved request word
too ("when a request is both not ready and otherwise refusable, the reason is `not_ready`"), and, by log 5, a frame
image. -/
def Obligations.NothingElseIsAcceptedBeforeBegin : Prop :=
  ∀ (s : State) (c : Code), s.resetRequest = false → s.phase = .idle → s.ready = false → s.pending = some c →
    decode c ≠ .ok .begin → (∀ e, decode c ≠ .ok (.setDebug e)) → step s = .refused .notReady

/-- No frame before startup (40_transport.md R87, 70_reset_and_hazards.md R194): whatever a step of a block that is not
ready adds to the trace is an event of the startup sequence. -/
def Obligations.OnlyStartupEventsBeforeReady : Prop :=
  ∀ s t : State, s.Inv → s.ready = false → s.resetRequest = false → step s = .next t →
    ∀ e ∈ t.trace.drop s.trace.length, e.isStartup

/-- `Refuse(bad_length)` and `Refuse(reserved_request)` (R176): a checksummed read outside 2 to 32, a plain read
outside 1 to 32 a request word with `op` in 0x9 to 0xF. Of a ready block: when it is not,
`not_ready` goes first (R179, 92_eei_decisions.md D6). -/
def Obligations.OutOfDomainRequestsAreRefused : Prop :=
  ∀ s : State, s.phase = .idle → s.ready = true →
    (∀ opcode len : Byte, len.toNat < 2 ∨ 32 < len.toNat →
      exec (.checksummedRead opcode len) s = .refused .badLength) ∧
    (∀ opcode len : Byte, len.toNat < 1 ∨ 32 < len.toNat →
      exec (.plainRead opcode len) s = .refused .badLength) ∧
    (∀ (op : BitVec 4) (a b : Byte), s.resetRequest = false → 9 ≤ op.toNat →
      s.pending = some (.req (op ++ a ++ b)) → step s = .refused .reservedRequest)

/-- No instruction faults (R187), and none is refused for any reason but the two of R176 and R177: in every
other state it has a next state. For a wire command run on its own this is log 5; that a command which hangs or
keeps failing answers a busy next state is log 4. -/
def Obligations.EveryInstructionRunsUnlessTheSpecRefuses : Prop :=
  ∀ (i : Instr) (s : State),
    ¬ (s.phase = .idle ∧ i.needsReady = true ∧ s.ready = false) →
    ¬ (s.phase = .idle ∧ i.wellFormed = false) →
    ∃ t, exec i s = .next t

/-- A request presented while the block is not idle is not accepted and changes nothing (30_encoding.md R70,
70_reset_and_hazards.md R197). -/
def Obligations.BusyRequestChangesNothing : Prop :=
  ∀ (i : Instr) (s : State), s.phase ≠ .idle → exec i s = .next s

/-- While the block is not idle its step does not look at the request port: a change of the request inputs is
not seen (20_memory.md R56, of a block with `busy` = 1). Three parts are the model's choice: that the port is a field
(log 11); that the word stays on it through the step, and that none is taken in `DONE` either (log 18); and that a
reset keeps it (log 9). -/
def Obligations.RequestPortIsNotSeenWhileBusy : Prop :=
  ∀ (s t : State) (p : Option Code), s.phase ≠ .idle → step s = .next t →
    step { s with pending := p } = .next { t with pending := p }

/-! ## The machine -/

/-- A step of an idle block runs the instruction whose word stands on the request port, which it takes
(30_encoding.md R70; the port as a field of State is log 11, that the word leaves it log 18). -/
def Obligations.StepRunsTheDecodedInstruction : Prop :=
  ∀ (s : State) (c : Code) (i : Instr), s.resetRequest = false → s.phase = .idle →
    s.pending = some c → decode c = .ok i → step s = exec i { s with pending := none }

/-- A placed table word is the instruction the next step runs, and placing it changes nothing else the
instruction can see in an idle block with no reset waiting (log 11). -/
def Obligations.PlacedWordRunsNext : Prop :=
  ∀ (s : State) (nbits w : Nat) (i : Instr), s.resetRequest = false → s.phase = .idle →
    decodeTableWord nbits w = some i → step (s.withFetchWord nbits w) = exec i { s with pending := none }

/-- The reset values the spec gives (10_state.md R36): the arrays zero, `IDLE`, neither `busy` nor `done`, not ready,
an empty trace. The other elements have the values of log 1, of which nothing is said here. -/
def Obligations.ResetValues : Prop :=
  (∀ i : Fin 7, State.reset.particleCounts[i] = 0 ∧ State.reset.massConcentrations[i] = 0) ∧
  State.reset.phase = .idle ∧ State.reset.busy = false ∧ State.reset.done = false ∧
  State.reset.ready = false ∧ State.reset.trace = []

/-- The two transport operations (40_transport.md R81, R83), as the steps of the phases `WRITE` and `READ`: what each
puts on the bus and in its registers, and what it leaves. Of the result registers, `WRITE` may set `res_ok` where it
ends a command that reports success; `READ` may set `res_buf` and `res_len` where it ends a plain read. -/
def Obligations.TransportOperations : Prop :=
  ∀ s : State, s.resetRequest = false →
    (s.phase = .write → s.world.allows 1 → ∃ t, step s = .next t ∧
      t.frame = #v[s.curOpcode, s.curParam, 0, 0, 0, 0, 0, 0] ∧
      t.trace = s.trace ++ [.busWrite 0x4B [s.curOpcode, s.curParam, 0, 0, 0, 0, 0, 0]] ∧
      SameReadings s t ∧ t.buf = s.buf ∧ t.bufLen = s.bufLen ∧ t.crc = s.crc ∧ t.ready = s.ready ∧
      t.debug = s.debug ∧ t.curOp = s.curOp ∧ t.curOpcode = s.curOpcode ∧ t.curParam = s.curParam ∧ t.curLen = s.curLen ∧
      t.resBuf = s.resBuf ∧ t.resLen = s.resLen ∧ t.resValue = s.resValue ∧
      (s.curOp.reportsSuccess = false → t.resOk = s.resOk)) ∧
    (∀ (r : Reply) (w : World), s.phase = .read → s.world.draw 1 = some ([r], w) →
      1 ≤ s.curLen.toNat → s.curLen.toNat ≤ 32 → ∃ t, step s = .next t ∧
      t.reply = r.toList.take s.curLen.toNat ∧ t.bufLen = s.curLen ∧
      t.trace = s.trace ++ [.busRead 0x4B s.curLen.toNat (r.toList.take s.curLen.toNat)] ∧
      SameReadings s t ∧ t.frame = s.frame ∧ t.crc = s.crc ∧ t.ready = s.ready ∧ t.debug = s.debug ∧
      t.curOp = s.curOp ∧ t.curOpcode = s.curOpcode ∧ t.curParam = s.curParam ∧ t.curLen = s.curLen ∧
      t.resValue = s.resValue ∧ t.resOk = s.resOk ∧
      (s.curOp.replyKind = .checked → t.resBuf = s.resBuf ∧ t.resLen = s.resLen))

/-- The four decodes (43_decode.md R141 to R144), as the step of the phase `DECODE`: each takes its bytes of `buf` to
its destination, whole, in one step, and writes nothing else: no other reading or result, no scratch register, no
flag, no event. Only the first decode of `UPDATE` reloads the latches, for its second read, and goes back to `WRITE`
(10_state.md R26, R28). The last clause is the model's choice (log 5): READ_VREF and READ_STATUS run on their own write
scratch state only (44_commands.md R153, R154), so they leave `res_value` as it was. -/
def Obligations.DecodesWriteTheirDestination : Prop :=
  ∀ s : State, s.Inv → s.resetRequest = false → s.phase = .decode →
    ∃ t, step s = .next t ∧ t.buf = s.buf ∧ t.bufLen = s.bufLen ∧ t.crc = s.crc ∧ t.frame = s.frame ∧
      t.trace = s.trace ∧ t.world = s.world ∧ t.resBuf = s.resBuf ∧ t.resLen = s.resLen ∧
      t.resOk = s.resOk ∧ t.ready = s.ready ∧ t.debug = s.debug ∧ t.curOp = s.curOp ∧ t.curParam = s.curParam ∧
      (if s.curOp = .update ∧ s.curOpcode = 0x11
        then t.curOpcode = 0x12 ∧ t.curLen = 32 ∧ t.phase = .write
        else t.curOpcode = s.curOpcode ∧ t.curLen = s.curLen ∧ t.busy = false) ∧
      (s.curOpcode = 0x11 → (∀ i : Fin 7, t.particleCounts[i] =
        byteAt s.buf.toList (4 * i) ++ byteAt s.buf.toList (4 * i + 1) ++
          byteAt s.buf.toList (4 * i + 2) ++ byteAt s.buf.toList (4 * i + 3)) ∧
        t.massConcentrations = s.massConcentrations ∧ t.resValue = s.resValue) ∧
      (s.curOpcode = 0x12 → (∀ i : Fin 7, t.massConcentrations[i] =
        byteAt s.buf.toList (4 * i + 3) ++ byteAt s.buf.toList (4 * i + 2) ++
          byteAt s.buf.toList (4 * i + 1) ++ byteAt s.buf.toList (4 * i)) ∧
        t.particleCounts = s.particleCounts ∧ t.resValue = s.resValue) ∧
      (s.curOp = .getReferenceVoltage → SameReadings s t ∧
        t.resValue = byteAt s.buf.toList 0 ++ byteAt s.buf.toList 1) ∧
      (s.curOp = .getStatus → SameReadings s t ∧ t.resValue = 0#8 ++ byteAt s.buf.toList 0) ∧
      (s.curOp = .readVref ∨ s.curOp = .readStatus → SameReadings s t ∧ t.resValue = s.resValue)

/-- Reset at any time (70_reset_and_hazards.md R190, R191): the arrays are zero, the block is idle and not ready,
the trace is empty; no bus activity (the `world` is as it was). That a reset waits in a field, and what it keeps, are
log 9. -/
def Obligations.ResetAbandonsTheCommand : Prop :=
  ∀ s : State, s.resetRequest = true → ∃ t, step s = .next t ∧
    (∀ i : Fin 7, t.particleCounts[i] = 0 ∧ t.massConcentrations[i] = 0) ∧ t.phase = .idle ∧
    t.busy = false ∧ t.done = false ∧ t.ready = false ∧ t.trace = [] ∧
    t.resetRequest = false ∧ t.world = s.world

/-- An idle block with no request waits and changes nothing; a block that presents results goes back to idle
(30_encoding.md R70), its result registers unspecified again (70_reset_and_hazards.md R200: free values, log 3) and every
other field as it was. -/
def Obligations.IdleWaitsAndDoneReturnsToIdle : Prop :=
  ∀ s : State, s.resetRequest = false →
    (s.phase = .idle → s.pending = none → step s = .next s) ∧
    (s.phase = .done → step s = .next { s.freeResults with phase := .idle })

/-- The entry of `ChecksumMismatch` and the return from it (60_exceptions.md R175, R180): a failed check changes
`crc` and the phase only; after the backoff wait of 1000 ms the same write comes next, with the same operands. The value
of `crc` after the check is log 7 (DEDUCED), and `world` is log 2. -/
def Obligations.MismatchWaitsAndRetries : Prop :=
  ∀ s : State, s.resetRequest = false →
    (s.phase = .check → s.matchFlag = false →
      step s = .next { s with
        crc := crcOver (s.reply.take (s.bufLen.toNat - 2)), phase := .backoff }) ∧
    (s.phase = .backoff → s.world.allows 1 →
      step s = .next { s with
        trace := s.trace ++ [.wait 1000], world := s.world.afterCompletions 1, phase := .write })

/-- The phase table (10_state.md R28, 42_checked_read.md R128): a step of a busy block keeps its phase exactly while the
primitive of the phase does not complete, and else leaves it as the table says; the edge out of `CHECK` depends on
`match` alone, up to the kind of command. That a wire command run on its own ends in `IDLE` is log 5; that a `Wait` may
be held is log 13. -/
def Obligations.PhasesAdvanceByTheTable : Prop :=
  ∀ s t : State, s.Inv → s.resetRequest = false → s.busy = true → step s = .next t →
    (s.Held → t.phase = s.phase) ∧
    (¬ s.Held →
      (s.phase = .link → t.phase = .settle1) ∧
      (s.phase = .settle1 → t.phase = .prime) ∧
      (s.phase = .prime → t.phase = .settle2) ∧
      (s.phase = .settle2 → t.phase = .done) ∧
      (s.phase = .write → t.phase = (if s.curOp.replyKind = .none
        then (if s.curOp.isWire then .idle else .done) else .read)) ∧
      (s.phase = .read → t.phase = (if s.curOp = .plainRead then .done else .check)) ∧
      (s.phase = .check → t.phase = (if s.matchFlag then
        (if s.curOp = .checksummedRead then .done else .decode) else .backoff)) ∧
      (s.phase = .backoff → t.phase = .write) ∧
      (s.phase = .decode → t.phase = (if s.curOp = .update ∧ s.curOpcode = 0x11
        then .write else if s.curOp.isWire then .idle else .done)))

/-- A primitive that does not complete holds the block: however many steps are taken, the phase, the trace and the
readings are the same and `busy` stays 1. R174 (60_exceptions.md) says so of `BusWrite`, `BusRead` and `LinkInit`; that a
`Wait` too may never end is the model's choice (logs 2 and 13; 42_checked_read.md R131 makes its end a premise). -/
def Obligations.HangStaysInItsPhase : Prop :=
  ∀ (s : State) (n : Nat), s.resetRequest = false → s.Held →
    ∃ t, Host.Core.run core n s = .next t ∧ t.phase = s.phase ∧ t.trace = s.trace ∧ t.busy = true ∧
      SameReadings s t ∧ t.world = s.world

/-- No retry limit (42_checked_read.md R123): if the peripheral never sends a checksum-valid reply, the
operation never returns: after any number of steps `busy` is 1, `done` is 0, and the readings and the result
registers are those it had when the loop was entered. -/
def Obligations.ReadNeverReturnsWithoutAValidReply : Prop :=
  ∀ (s : State) (n : Nat), s.Inv → s.resetRequest = false →
    s.phase ∈ [.write, .read, .backoff] → s.curOp.replyKind = .checked →
    s.world.NeverValid s.curLen.toNat →
    ∃ t, Host.Core.run core n s = .next t ∧ t.busy = true ∧ t.done = false ∧ SameReadings s t ∧
      t.resBuf = s.resBuf ∧ t.resLen = s.resLen ∧ t.resValue = s.resValue ∧ t.resOk = s.resOk

/-- The infinite run of R123 exists: where the peripheral repeats one reply that is not valid for ever and every
other primitive completes, the trace gains any number of backoff waits. -/
def Obligations.RetryIsUnbounded : Prop :=
  ∀ (s : State) (r : Reply) (n : Nat), s.Inv → s.resetRequest = false → s.phase = .write →
    s.curOp.replyKind = .checked → s.world = { completions := none, replies := [], thereafter := some r } →
    ¬ ReplyValid s.curLen.toNat r →
    ∃ t, Host.Core.run core (4 * n) s = .next t ∧
      t.trace = s.trace ++ (List.replicate n
        [sent s.curOpcode 0, received s.curLen.toNat r, .wait 1000]).flatten

/-- The invariant of the block holds after reset. -/
def Obligations.InvHoldsAtReset : Prop := State.reset.Inv ∧ State.reset.Genuine

/-- Every step keeps the invariant of the block (20_memory.md R41, R50, R51, 40_transport.md R87, R88,
43_decode.md R140). -/
def Obligations.StepKeepsInv : Prop :=
  ∀ s t : State, s.Inv → step s = .next t → t.Inv

/-- Every step keeps the readings genuine: an array is all zero or was decoded, all seven elements, from one
checksum-valid reply read on the bus (10_state.md R21, R22, 43_decode.md R140, R147). -/
def Obligations.StepKeepsReadingsGenuine : Prop :=
  ∀ s t : State, s.Inv → s.Genuine → step s = .next t → t.Genuine

/-- Who may change the reading arrays (10_state.md R37): no instruction but `UPDATE` and the two wire commands it
performs. -/
def Obligations.OnlyUpdateWritesTheReadings : Prop :=
  ∀ (i : Instr) (s t : State), i.writesReadings = false → exec i s = .next t → SameReadings s t

/-- A step that is no reset only ever appends to the trace (10_state.md R35). -/
def Obligations.TraceOnlyGrows : Prop :=
  ∀ s t : State, s.resetRequest = false → step s = .next t → s.trace <+: t.trace

/-- `ready` and `debug` (R30, R31): written by no instruction but `BEGIN` and `SET_DEBUG`. -/
def Obligations.ReadyAndDebugHaveOneWriter : Prop :=
  ∀ (i : Instr) (s t : State), exec i s = .next t →
    (i ≠ .begin → t.ready = s.ready) ∧ ((∀ e, i ≠ .setDebug e) → t.debug = s.debug)

/-! ## Independence and equivalence -/

/-- `debug` affects nothing (R31, R159): a run with the flag at another value differs in the flag only. -/
def Obligations.DebugAffectsNothing : Prop :=
  ∀ (i : Instr) (s t : State) (d : Bool), (∀ e, i ≠ .setDebug e) → exec i s = .next t →
    exec i { s with debug := d } = .next { t with debug := d }

/-- No scratch state is retained between transactions (10_state.md R23 to R26): the old contents of `crc`, `frame`,
`buf`, `buf_len` and the four latches have no effect on what a command does. Started with any other contents it has a
next state that agrees in every other field; and each of these registers (of `buf`, each byte) agrees too, or was
left as it was in both runs (what a command leaves in them is logs 7 and 8). -/
def Obligations.ScratchIsNotRetained : Prop :=
  ∀ (i : Instr) (s t : State) (c : CrcWord) (f : Vector Byte 8) (b : Vector Byte 32) (n : BitVec 6) (op : Op)
    (o p : Byte) (m : BitVec 6),
    s.phase = .idle → exec i s = .next t →
    ∃ t', exec i { s with
        crc := c, frame := f, buf := b, bufLen := n,
        curOp := op, curOpcode := o, curParam := p, curLen := m } = .next t' ∧
      { t' with crc := t.crc, frame := t.frame, buf := t.buf, bufLen := t.bufLen, curOp := t.curOp,
                curOpcode := t.curOpcode, curParam := t.curParam, curLen := t.curLen } = t ∧
      (t'.crc = t.crc ∨ t'.crc = c ∧ t.crc = s.crc) ∧
      (t'.frame = t.frame ∨ t'.frame = f ∧ t.frame = s.frame) ∧
      (∀ k : Fin 32, t'.buf[k] = t.buf[k] ∨ t'.buf[k] = b[k] ∧ t.buf[k] = s.buf[k]) ∧
      (t'.bufLen = t.bufLen ∨ t'.bufLen = n ∧ t.bufLen = s.bufLen) ∧
      t'.curOp = t.curOp ∧
      (t'.curOpcode = t.curOpcode ∨ t'.curOpcode = o ∧ t.curOpcode = s.curOpcode) ∧
      (t'.curParam = t.curParam ∨ t'.curParam = p ∧ t.curParam = s.curParam) ∧
      (t'.curLen = t.curLen ∨ t'.curLen = m ∧ t.curLen = s.curLen)

/-- `SET_FAN on` is `WRITE 0x2B, (0x01 if on else 0x00)` (30_encoding.md R75): only `cur_op` tells them apart. -/
def Obligations.SetFanIsAWrite : Prop :=
  ∀ (s t : State) (on : Bool), s.phase = .idle →
    exec (.write 0x2B (if on then 0x01 else 0x00)) s = .next t →
    exec (.setFan on) s = .next { t with curOp := .setFan }

/-- `GET_REFERENCE_VOLTAGE` and `GET_STATUS` are `CHECKSUMMED_READ 0x69, 4` and `CHECKSUMMED_READ 0x6A, 3`, then a
decode of the bytes returned (R75): the same events, the same `buf` (above the bytes read, log 7), the result in `res_value`. -/
def Obligations.GetsAreChecksummedReads : Prop :=
  ∀ s t : State, s.phase = .idle →
    (exec (.checksummedRead 0x69 4) s = .next t → t.done = true →
      ∃ u, exec .getReferenceVoltage s = .next u ∧ u.done = true ∧ u.trace = t.trace ∧
        u.world = t.world ∧ u.buf = t.buf ∧ u.resValue = t.resBuf[0] ++ t.resBuf[1]) ∧
    (exec (.checksummedRead 0x6A 3) s = .next t → t.done = true →
      ∃ u, exec .getStatus s = .next u ∧ u.done = true ∧ u.trace = t.trace ∧
        u.world = t.world ∧ u.buf = t.buf ∧ u.resValue = t.resBuf[0].zeroExtend 16)

/-- `UPDATE` is `CHECKSUMMED_READ 0x11, 30`, then `CHECKSUMMED_READ 0x12, 32`, each reply decoded into its array
(R75): where the two generic reads complete one after the other, with the step from `DONE` to `IDLE` between them,
`UPDATE` completes with the same events and the arrays decoded from the bytes they returned. -/
def Obligations.UpdateIsTwoChecksummedReads : Prop :=
  ∀ s t₁ s₁ t₂ : State, s.phase = .idle →
    exec (.checksummedRead 0x11 30) s = .next t₁ → t₁.done = true → step t₁ = .next s₁ →
    exec (.checksummedRead 0x12 32) s₁ = .next t₂ → t₂.done = true →
    ∃ u, exec .update s = .next u ∧ u.done = true ∧ u.trace = t₂.trace ∧ u.world = t₂.world ∧
      u.particleCounts = decodeCounts (t₁.resBuf.toList.take 30) ∧
      u.massConcentrations = decodeConc (t₂.resBuf.toList.take 32)
end

