-- ==== Sys2Proof/Laws/Decode.lean ====
section
/-! SUPPORT. The fields of a word and of a frame image, the byte forms, and the CRC register over a sequence. -/

namespace Sys2Proof

@[simp] theorem reqOp_reqWord (op : BitVec 4) (a b : Byte) : reqOp (reqWord op a b) = op := by
  apply BitVec.eq_of_getLsbD_eq
  intro i hi
  simp only [reqOp, reqWord, BitVec.getLsbD_extractLsb', BitVec.getLsbD_append, hi]
  interval_cases i <;> simp

@[simp] theorem reqA_reqWord (op : BitVec 4) (a b : Byte) : reqA (reqWord op a b) = a := by
  apply BitVec.eq_of_getLsbD_eq
  intro i hi
  simp only [reqA, reqWord, BitVec.getLsbD_extractLsb', BitVec.getLsbD_append, hi]
  interval_cases i <;> simp

@[simp] theorem reqB_reqWord (op : BitVec 4) (a b : Byte) : reqB (reqWord op a b) = b := by
  apply BitVec.eq_of_getLsbD_eq
  intro i hi
  simp only [reqB, reqWord, BitVec.getLsbD_extractLsb', BitVec.getLsbD_append, hi]
  interval_cases i <;> simp

namespace Machine

theorem crcOver_append (s t : List Byte) : crcOver (s ++ t) = t.foldl crcByte (crcOver s) := by
  simp [crcOver, List.foldl_append]

/-- Two bytes, high byte first, are their concatenation (30_encoding.md R76). -/
theorem be16_eq (s : List Byte) (k : Nat) : be16 s k = byteAt s k ++ byteAt s (k + 1) := by
  apply BitVec.eq_of_getLsbD_eq
  intro i hi
  simp only [be16, BitVec.getLsbD_or, BitVec.getLsbD_shiftLeft, BitVec.truncate_eq_setWidth,
    BitVec.getLsbD_setWidth, BitVec.getLsbD_append]
  interval_cases i <;> simp

/-- Four bytes, high byte first, are their concatenation (R76). -/
theorem be32_eq (s : List Byte) (k : Nat) :
    be32 s k = byteAt s k ++ byteAt s (k + 1) ++ byteAt s (k + 2) ++ byteAt s (k + 3) := by
  apply BitVec.eq_of_getLsbD_eq
  intro i hi
  simp only [be32, BitVec.getLsbD_or, BitVec.getLsbD_shiftLeft, BitVec.truncate_eq_setWidth,
    BitVec.getLsbD_setWidth, BitVec.getLsbD_append]
  interval_cases i <;> simp

/-- A byte of the sequence is read as it is. -/
theorem byteAt_of_getElem? {s : List Byte} {k : Nat} {b : Byte} (h : s[k]? = some b) : byteAt s k = b := by
  simp [byteAt, List.getD_eq_getElem?_getD, h]

/-- A byte within a prefix is read from the prefix alike. -/
theorem byteAt_take {s : List Byte} {k n : Nat} (h : k < n) : byteAt (s.take n) k = byteAt s k := by
  simp [byteAt, List.getD_eq_getElem?_getD, h]

end Machine

end Sys2Proof
end

