-- ==== Sys2Proof/Laws/State.lean ====
section
/-! SUPPORT. What each register write leaves in each field of State: one lemma per field per write. -/

namespace Sys2Proof.Machine.State

variable (s : State)

/-! ## `goTo` -/

@[simp] theorem goTo_particleCounts (p : Phase) : (s.goTo p).particleCounts = s.particleCounts := rfl
@[simp] theorem goTo_massConcentrations (p : Phase) : (s.goTo p).massConcentrations = s.massConcentrations := rfl
@[simp] theorem goTo_crc (p : Phase) : (s.goTo p).crc = s.crc := rfl
@[simp] theorem goTo_frame (p : Phase) : (s.goTo p).frame = s.frame := rfl
@[simp] theorem goTo_buf (p : Phase) : (s.goTo p).buf = s.buf := rfl
@[simp] theorem goTo_bufLen (p : Phase) : (s.goTo p).bufLen = s.bufLen := rfl
@[simp] theorem goTo_curOp (p : Phase) : (s.goTo p).curOp = s.curOp := rfl
@[simp] theorem goTo_curOpcode (p : Phase) : (s.goTo p).curOpcode = s.curOpcode := rfl
@[simp] theorem goTo_curParam (p : Phase) : (s.goTo p).curParam = s.curParam := rfl
@[simp] theorem goTo_curLen (p : Phase) : (s.goTo p).curLen = s.curLen := rfl
@[simp] theorem goTo_resBuf (p : Phase) : (s.goTo p).resBuf = s.resBuf := rfl
@[simp] theorem goTo_resLen (p : Phase) : (s.goTo p).resLen = s.resLen := rfl
@[simp] theorem goTo_resValue (p : Phase) : (s.goTo p).resValue = s.resValue := rfl
@[simp] theorem goTo_resOk (p : Phase) : (s.goTo p).resOk = s.resOk := rfl
@[simp] theorem goTo_phase (p : Phase) : (s.goTo p).phase = p := rfl
@[simp] theorem goTo_ready (p : Phase) : (s.goTo p).ready = s.ready := rfl
@[simp] theorem goTo_debug (p : Phase) : (s.goTo p).debug = s.debug := rfl
@[simp] theorem goTo_trace (p : Phase) : (s.goTo p).trace = s.trace := rfl
@[simp] theorem goTo_pending (p : Phase) : (s.goTo p).pending = s.pending := rfl
@[simp] theorem goTo_resetRequest (p : Phase) : (s.goTo p).resetRequest = s.resetRequest := rfl
@[simp] theorem goTo_world (p : Phase) : (s.goTo p).world = s.world := rfl
@[simp] theorem goTo_draws (p : Phase) : (s.goTo p).draws = s.draws := rfl

/-! ## `record` -/

@[simp] theorem record_particleCounts (e : Event) : (s.record e).particleCounts = s.particleCounts := rfl
@[simp] theorem record_massConcentrations (e : Event) : (s.record e).massConcentrations = s.massConcentrations := rfl
@[simp] theorem record_crc (e : Event) : (s.record e).crc = s.crc := rfl
@[simp] theorem record_frame (e : Event) : (s.record e).frame = s.frame := rfl
@[simp] theorem record_buf (e : Event) : (s.record e).buf = s.buf := rfl
@[simp] theorem record_bufLen (e : Event) : (s.record e).bufLen = s.bufLen := rfl
@[simp] theorem record_curOp (e : Event) : (s.record e).curOp = s.curOp := rfl
@[simp] theorem record_curOpcode (e : Event) : (s.record e).curOpcode = s.curOpcode := rfl
@[simp] theorem record_curParam (e : Event) : (s.record e).curParam = s.curParam := rfl
@[simp] theorem record_curLen (e : Event) : (s.record e).curLen = s.curLen := rfl
@[simp] theorem record_resBuf (e : Event) : (s.record e).resBuf = s.resBuf := rfl
@[simp] theorem record_resLen (e : Event) : (s.record e).resLen = s.resLen := rfl
@[simp] theorem record_resValue (e : Event) : (s.record e).resValue = s.resValue := rfl
@[simp] theorem record_resOk (e : Event) : (s.record e).resOk = s.resOk := rfl
@[simp] theorem record_phase (e : Event) : (s.record e).phase = s.phase := rfl
@[simp] theorem record_ready (e : Event) : (s.record e).ready = s.ready := rfl
@[simp] theorem record_debug (e : Event) : (s.record e).debug = s.debug := rfl
@[simp] theorem record_trace (e : Event) : (s.record e).trace = s.trace ++ [e] := rfl
@[simp] theorem record_pending (e : Event) : (s.record e).pending = s.pending := rfl
@[simp] theorem record_resetRequest (e : Event) : (s.record e).resetRequest = s.resetRequest := rfl
@[simp] theorem record_world (e : Event) : (s.record e).world = s.world := rfl
@[simp] theorem record_draws (e : Event) : (s.record e).draws = s.draws := rfl

/-! ## `setWorld` -/

@[simp] theorem setWorld_particleCounts (w : World) : (s.setWorld w).particleCounts = s.particleCounts := rfl
@[simp] theorem setWorld_massConcentrations (w : World) : (s.setWorld w).massConcentrations = s.massConcentrations := rfl
@[simp] theorem setWorld_crc (w : World) : (s.setWorld w).crc = s.crc := rfl
@[simp] theorem setWorld_frame (w : World) : (s.setWorld w).frame = s.frame := rfl
@[simp] theorem setWorld_buf (w : World) : (s.setWorld w).buf = s.buf := rfl
@[simp] theorem setWorld_bufLen (w : World) : (s.setWorld w).bufLen = s.bufLen := rfl
@[simp] theorem setWorld_curOp (w : World) : (s.setWorld w).curOp = s.curOp := rfl
@[simp] theorem setWorld_curOpcode (w : World) : (s.setWorld w).curOpcode = s.curOpcode := rfl
@[simp] theorem setWorld_curParam (w : World) : (s.setWorld w).curParam = s.curParam := rfl
@[simp] theorem setWorld_curLen (w : World) : (s.setWorld w).curLen = s.curLen := rfl
@[simp] theorem setWorld_resBuf (w : World) : (s.setWorld w).resBuf = s.resBuf := rfl
@[simp] theorem setWorld_resLen (w : World) : (s.setWorld w).resLen = s.resLen := rfl
@[simp] theorem setWorld_resValue (w : World) : (s.setWorld w).resValue = s.resValue := rfl
@[simp] theorem setWorld_resOk (w : World) : (s.setWorld w).resOk = s.resOk := rfl
@[simp] theorem setWorld_phase (w : World) : (s.setWorld w).phase = s.phase := rfl
@[simp] theorem setWorld_ready (w : World) : (s.setWorld w).ready = s.ready := rfl
@[simp] theorem setWorld_debug (w : World) : (s.setWorld w).debug = s.debug := rfl
@[simp] theorem setWorld_trace (w : World) : (s.setWorld w).trace = s.trace := rfl
@[simp] theorem setWorld_pending (w : World) : (s.setWorld w).pending = s.pending := rfl
@[simp] theorem setWorld_resetRequest (w : World) : (s.setWorld w).resetRequest = s.resetRequest := rfl
@[simp] theorem setWorld_world (w : World) : (s.setWorld w).world = w := rfl
@[simp] theorem setWorld_draws (w : World) : (s.setWorld w).draws = s.draws := rfl

/-! ## `latchOp` -/

@[simp] theorem latchOp_particleCounts (op : Op) : (s.latchOp op).particleCounts = s.particleCounts := rfl
@[simp] theorem latchOp_massConcentrations (op : Op) : (s.latchOp op).massConcentrations = s.massConcentrations := rfl
@[simp] theorem latchOp_crc (op : Op) : (s.latchOp op).crc = s.crc := rfl
@[simp] theorem latchOp_frame (op : Op) : (s.latchOp op).frame = s.frame := rfl
@[simp] theorem latchOp_buf (op : Op) : (s.latchOp op).buf = s.buf := rfl
@[simp] theorem latchOp_bufLen (op : Op) : (s.latchOp op).bufLen = s.bufLen := rfl
@[simp] theorem latchOp_curOp (op : Op) : (s.latchOp op).curOp = op := rfl
@[simp] theorem latchOp_curOpcode (op : Op) : (s.latchOp op).curOpcode = s.curOpcode := rfl
@[simp] theorem latchOp_curParam (op : Op) : (s.latchOp op).curParam = s.curParam := rfl
@[simp] theorem latchOp_curLen (op : Op) : (s.latchOp op).curLen = s.curLen := rfl
@[simp] theorem latchOp_resBuf (op : Op) : (s.latchOp op).resBuf = s.resBuf := rfl
@[simp] theorem latchOp_resLen (op : Op) : (s.latchOp op).resLen = s.resLen := rfl
@[simp] theorem latchOp_resValue (op : Op) : (s.latchOp op).resValue = s.resValue := rfl
@[simp] theorem latchOp_resOk (op : Op) : (s.latchOp op).resOk = s.resOk := rfl
@[simp] theorem latchOp_phase (op : Op) : (s.latchOp op).phase = s.phase := rfl
@[simp] theorem latchOp_ready (op : Op) : (s.latchOp op).ready = s.ready := rfl
@[simp] theorem latchOp_debug (op : Op) : (s.latchOp op).debug = s.debug := rfl
@[simp] theorem latchOp_trace (op : Op) : (s.latchOp op).trace = s.trace := rfl
@[simp] theorem latchOp_pending (op : Op) : (s.latchOp op).pending = s.pending := rfl
@[simp] theorem latchOp_resetRequest (op : Op) : (s.latchOp op).resetRequest = s.resetRequest := rfl
@[simp] theorem latchOp_world (op : Op) : (s.latchOp op).world = s.world := rfl
@[simp] theorem latchOp_draws (op : Op) : (s.latchOp op).draws = s.draws := rfl

/-! ## `latchWire` -/

@[simp] theorem latchWire_particleCounts (o p : Byte) : (s.latchWire o p).particleCounts = s.particleCounts := rfl
@[simp] theorem latchWire_massConcentrations (o p : Byte) : (s.latchWire o p).massConcentrations = s.massConcentrations := rfl
@[simp] theorem latchWire_crc (o p : Byte) : (s.latchWire o p).crc = s.crc := rfl
@[simp] theorem latchWire_frame (o p : Byte) : (s.latchWire o p).frame = s.frame := rfl
@[simp] theorem latchWire_buf (o p : Byte) : (s.latchWire o p).buf = s.buf := rfl
@[simp] theorem latchWire_bufLen (o p : Byte) : (s.latchWire o p).bufLen = s.bufLen := rfl
@[simp] theorem latchWire_curOp (o p : Byte) : (s.latchWire o p).curOp = s.curOp := rfl
@[simp] theorem latchWire_curOpcode (o p : Byte) : (s.latchWire o p).curOpcode = o := rfl
@[simp] theorem latchWire_curParam (o p : Byte) : (s.latchWire o p).curParam = p := rfl
@[simp] theorem latchWire_curLen (o p : Byte) : (s.latchWire o p).curLen = s.curLen := rfl
@[simp] theorem latchWire_resBuf (o p : Byte) : (s.latchWire o p).resBuf = s.resBuf := rfl
@[simp] theorem latchWire_resLen (o p : Byte) : (s.latchWire o p).resLen = s.resLen := rfl
@[simp] theorem latchWire_resValue (o p : Byte) : (s.latchWire o p).resValue = s.resValue := rfl
@[simp] theorem latchWire_resOk (o p : Byte) : (s.latchWire o p).resOk = s.resOk := rfl
@[simp] theorem latchWire_phase (o p : Byte) : (s.latchWire o p).phase = s.phase := rfl
@[simp] theorem latchWire_ready (o p : Byte) : (s.latchWire o p).ready = s.ready := rfl
@[simp] theorem latchWire_debug (o p : Byte) : (s.latchWire o p).debug = s.debug := rfl
@[simp] theorem latchWire_trace (o p : Byte) : (s.latchWire o p).trace = s.trace := rfl
@[simp] theorem latchWire_pending (o p : Byte) : (s.latchWire o p).pending = s.pending := rfl
@[simp] theorem latchWire_resetRequest (o p : Byte) : (s.latchWire o p).resetRequest = s.resetRequest := rfl
@[simp] theorem latchWire_world (o p : Byte) : (s.latchWire o p).world = s.world := rfl
@[simp] theorem latchWire_draws (o p : Byte) : (s.latchWire o p).draws = s.draws := rfl

/-! ## `latchLen` -/

@[simp] theorem latchLen_particleCounts (n : BitVec 6) : (s.latchLen n).particleCounts = s.particleCounts := rfl
@[simp] theorem latchLen_massConcentrations (n : BitVec 6) : (s.latchLen n).massConcentrations = s.massConcentrations := rfl
@[simp] theorem latchLen_crc (n : BitVec 6) : (s.latchLen n).crc = s.crc := rfl
@[simp] theorem latchLen_frame (n : BitVec 6) : (s.latchLen n).frame = s.frame := rfl
@[simp] theorem latchLen_buf (n : BitVec 6) : (s.latchLen n).buf = s.buf := rfl
@[simp] theorem latchLen_bufLen (n : BitVec 6) : (s.latchLen n).bufLen = s.bufLen := rfl
@[simp] theorem latchLen_curOp (n : BitVec 6) : (s.latchLen n).curOp = s.curOp := rfl
@[simp] theorem latchLen_curOpcode (n : BitVec 6) : (s.latchLen n).curOpcode = s.curOpcode := rfl
@[simp] theorem latchLen_curParam (n : BitVec 6) : (s.latchLen n).curParam = s.curParam := rfl
@[simp] theorem latchLen_curLen (n : BitVec 6) : (s.latchLen n).curLen = n := rfl
@[simp] theorem latchLen_resBuf (n : BitVec 6) : (s.latchLen n).resBuf = s.resBuf := rfl
@[simp] theorem latchLen_resLen (n : BitVec 6) : (s.latchLen n).resLen = s.resLen := rfl
@[simp] theorem latchLen_resValue (n : BitVec 6) : (s.latchLen n).resValue = s.resValue := rfl
@[simp] theorem latchLen_resOk (n : BitVec 6) : (s.latchLen n).resOk = s.resOk := rfl
@[simp] theorem latchLen_phase (n : BitVec 6) : (s.latchLen n).phase = s.phase := rfl
@[simp] theorem latchLen_ready (n : BitVec 6) : (s.latchLen n).ready = s.ready := rfl
@[simp] theorem latchLen_debug (n : BitVec 6) : (s.latchLen n).debug = s.debug := rfl
@[simp] theorem latchLen_trace (n : BitVec 6) : (s.latchLen n).trace = s.trace := rfl
@[simp] theorem latchLen_pending (n : BitVec 6) : (s.latchLen n).pending = s.pending := rfl
@[simp] theorem latchLen_resetRequest (n : BitVec 6) : (s.latchLen n).resetRequest = s.resetRequest := rfl
@[simp] theorem latchLen_world (n : BitVec 6) : (s.latchLen n).world = s.world := rfl
@[simp] theorem latchLen_draws (n : BitVec 6) : (s.latchLen n).draws = s.draws := rfl

/-! ## `setFrame` -/

@[simp] theorem setFrame_particleCounts (f : Vector Byte Config.frameLen) : (s.setFrame f).particleCounts = s.particleCounts := rfl
@[simp] theorem setFrame_massConcentrations (f : Vector Byte Config.frameLen) : (s.setFrame f).massConcentrations = s.massConcentrations := rfl
@[simp] theorem setFrame_crc (f : Vector Byte Config.frameLen) : (s.setFrame f).crc = s.crc := rfl
@[simp] theorem setFrame_frame (f : Vector Byte Config.frameLen) : (s.setFrame f).frame = f := rfl
@[simp] theorem setFrame_buf (f : Vector Byte Config.frameLen) : (s.setFrame f).buf = s.buf := rfl
@[simp] theorem setFrame_bufLen (f : Vector Byte Config.frameLen) : (s.setFrame f).bufLen = s.bufLen := rfl
@[simp] theorem setFrame_curOp (f : Vector Byte Config.frameLen) : (s.setFrame f).curOp = s.curOp := rfl
@[simp] theorem setFrame_curOpcode (f : Vector Byte Config.frameLen) : (s.setFrame f).curOpcode = s.curOpcode := rfl
@[simp] theorem setFrame_curParam (f : Vector Byte Config.frameLen) : (s.setFrame f).curParam = s.curParam := rfl
@[simp] theorem setFrame_curLen (f : Vector Byte Config.frameLen) : (s.setFrame f).curLen = s.curLen := rfl
@[simp] theorem setFrame_resBuf (f : Vector Byte Config.frameLen) : (s.setFrame f).resBuf = s.resBuf := rfl
@[simp] theorem setFrame_resLen (f : Vector Byte Config.frameLen) : (s.setFrame f).resLen = s.resLen := rfl
@[simp] theorem setFrame_resValue (f : Vector Byte Config.frameLen) : (s.setFrame f).resValue = s.resValue := rfl
@[simp] theorem setFrame_resOk (f : Vector Byte Config.frameLen) : (s.setFrame f).resOk = s.resOk := rfl
@[simp] theorem setFrame_phase (f : Vector Byte Config.frameLen) : (s.setFrame f).phase = s.phase := rfl
@[simp] theorem setFrame_ready (f : Vector Byte Config.frameLen) : (s.setFrame f).ready = s.ready := rfl
@[simp] theorem setFrame_debug (f : Vector Byte Config.frameLen) : (s.setFrame f).debug = s.debug := rfl
@[simp] theorem setFrame_trace (f : Vector Byte Config.frameLen) : (s.setFrame f).trace = s.trace := rfl
@[simp] theorem setFrame_pending (f : Vector Byte Config.frameLen) : (s.setFrame f).pending = s.pending := rfl
@[simp] theorem setFrame_resetRequest (f : Vector Byte Config.frameLen) : (s.setFrame f).resetRequest = s.resetRequest := rfl
@[simp] theorem setFrame_world (f : Vector Byte Config.frameLen) : (s.setFrame f).world = s.world := rfl
@[simp] theorem setFrame_draws (f : Vector Byte Config.frameLen) : (s.setFrame f).draws = s.draws := rfl

/-! ## `setReply` -/

@[simp] theorem setReply_particleCounts (r : Reply) (n : BitVec 6) : (s.setReply r n).particleCounts = s.particleCounts := by unfold setReply; rfl
@[simp] theorem setReply_massConcentrations (r : Reply) (n : BitVec 6) : (s.setReply r n).massConcentrations = s.massConcentrations := by unfold setReply; rfl
@[simp] theorem setReply_crc (r : Reply) (n : BitVec 6) : (s.setReply r n).crc = s.crc := by unfold setReply; rfl
@[simp] theorem setReply_frame (r : Reply) (n : BitVec 6) : (s.setReply r n).frame = s.frame := by unfold setReply; rfl
@[simp] theorem setReply_buf (r : Reply) (n : BitVec 6) : (s.setReply r n).buf = overwrite s.buf r n.toNat := by unfold setReply; rfl
@[simp] theorem setReply_bufLen (r : Reply) (n : BitVec 6) : (s.setReply r n).bufLen = n := by unfold setReply; rfl
@[simp] theorem setReply_curOp (r : Reply) (n : BitVec 6) : (s.setReply r n).curOp = s.curOp := by unfold setReply; rfl
@[simp] theorem setReply_curOpcode (r : Reply) (n : BitVec 6) : (s.setReply r n).curOpcode = s.curOpcode := by unfold setReply; rfl
@[simp] theorem setReply_curParam (r : Reply) (n : BitVec 6) : (s.setReply r n).curParam = s.curParam := by unfold setReply; rfl
@[simp] theorem setReply_curLen (r : Reply) (n : BitVec 6) : (s.setReply r n).curLen = s.curLen := by unfold setReply; rfl
@[simp] theorem setReply_resBuf (r : Reply) (n : BitVec 6) : (s.setReply r n).resBuf = s.resBuf := by unfold setReply; rfl
@[simp] theorem setReply_resLen (r : Reply) (n : BitVec 6) : (s.setReply r n).resLen = s.resLen := by unfold setReply; rfl
@[simp] theorem setReply_resValue (r : Reply) (n : BitVec 6) : (s.setReply r n).resValue = s.resValue := by unfold setReply; rfl
@[simp] theorem setReply_resOk (r : Reply) (n : BitVec 6) : (s.setReply r n).resOk = s.resOk := by unfold setReply; rfl
@[simp] theorem setReply_phase (r : Reply) (n : BitVec 6) : (s.setReply r n).phase = s.phase := by unfold setReply; rfl
@[simp] theorem setReply_ready (r : Reply) (n : BitVec 6) : (s.setReply r n).ready = s.ready := by unfold setReply; rfl
@[simp] theorem setReply_debug (r : Reply) (n : BitVec 6) : (s.setReply r n).debug = s.debug := by unfold setReply; rfl
@[simp] theorem setReply_trace (r : Reply) (n : BitVec 6) : (s.setReply r n).trace = s.trace := by unfold setReply; rfl
@[simp] theorem setReply_pending (r : Reply) (n : BitVec 6) : (s.setReply r n).pending = s.pending := by unfold setReply; rfl
@[simp] theorem setReply_resetRequest (r : Reply) (n : BitVec 6) : (s.setReply r n).resetRequest = s.resetRequest := by unfold setReply; rfl
@[simp] theorem setReply_world (r : Reply) (n : BitVec 6) : (s.setReply r n).world = s.world := by unfold setReply; rfl
@[simp] theorem setReply_draws (r : Reply) (n : BitVec 6) : (s.setReply r n).draws = s.draws := by unfold setReply; rfl

/-! ## `setCrc` -/

@[simp] theorem setCrc_particleCounts (c : CrcWord) : (s.setCrc c).particleCounts = s.particleCounts := rfl
@[simp] theorem setCrc_massConcentrations (c : CrcWord) : (s.setCrc c).massConcentrations = s.massConcentrations := rfl
@[simp] theorem setCrc_crc (c : CrcWord) : (s.setCrc c).crc = c := rfl
@[simp] theorem setCrc_frame (c : CrcWord) : (s.setCrc c).frame = s.frame := rfl
@[simp] theorem setCrc_buf (c : CrcWord) : (s.setCrc c).buf = s.buf := rfl
@[simp] theorem setCrc_bufLen (c : CrcWord) : (s.setCrc c).bufLen = s.bufLen := rfl
@[simp] theorem setCrc_curOp (c : CrcWord) : (s.setCrc c).curOp = s.curOp := rfl
@[simp] theorem setCrc_curOpcode (c : CrcWord) : (s.setCrc c).curOpcode = s.curOpcode := rfl
@[simp] theorem setCrc_curParam (c : CrcWord) : (s.setCrc c).curParam = s.curParam := rfl
@[simp] theorem setCrc_curLen (c : CrcWord) : (s.setCrc c).curLen = s.curLen := rfl
@[simp] theorem setCrc_resBuf (c : CrcWord) : (s.setCrc c).resBuf = s.resBuf := rfl
@[simp] theorem setCrc_resLen (c : CrcWord) : (s.setCrc c).resLen = s.resLen := rfl
@[simp] theorem setCrc_resValue (c : CrcWord) : (s.setCrc c).resValue = s.resValue := rfl
@[simp] theorem setCrc_resOk (c : CrcWord) : (s.setCrc c).resOk = s.resOk := rfl
@[simp] theorem setCrc_phase (c : CrcWord) : (s.setCrc c).phase = s.phase := rfl
@[simp] theorem setCrc_ready (c : CrcWord) : (s.setCrc c).ready = s.ready := rfl
@[simp] theorem setCrc_debug (c : CrcWord) : (s.setCrc c).debug = s.debug := rfl
@[simp] theorem setCrc_trace (c : CrcWord) : (s.setCrc c).trace = s.trace := rfl
@[simp] theorem setCrc_pending (c : CrcWord) : (s.setCrc c).pending = s.pending := rfl
@[simp] theorem setCrc_resetRequest (c : CrcWord) : (s.setCrc c).resetRequest = s.resetRequest := rfl
@[simp] theorem setCrc_world (c : CrcWord) : (s.setCrc c).world = s.world := rfl
@[simp] theorem setCrc_draws (c : CrcWord) : (s.setCrc c).draws = s.draws := rfl

/-! ## `setCounts` -/

@[simp] theorem setCounts_particleCounts (v : Vector Word32 Config.nBins) : (s.setCounts v).particleCounts = v := rfl
@[simp] theorem setCounts_massConcentrations (v : Vector Word32 Config.nBins) : (s.setCounts v).massConcentrations = s.massConcentrations := rfl
@[simp] theorem setCounts_crc (v : Vector Word32 Config.nBins) : (s.setCounts v).crc = s.crc := rfl
@[simp] theorem setCounts_frame (v : Vector Word32 Config.nBins) : (s.setCounts v).frame = s.frame := rfl
@[simp] theorem setCounts_buf (v : Vector Word32 Config.nBins) : (s.setCounts v).buf = s.buf := rfl
@[simp] theorem setCounts_bufLen (v : Vector Word32 Config.nBins) : (s.setCounts v).bufLen = s.bufLen := rfl
@[simp] theorem setCounts_curOp (v : Vector Word32 Config.nBins) : (s.setCounts v).curOp = s.curOp := rfl
@[simp] theorem setCounts_curOpcode (v : Vector Word32 Config.nBins) : (s.setCounts v).curOpcode = s.curOpcode := rfl
@[simp] theorem setCounts_curParam (v : Vector Word32 Config.nBins) : (s.setCounts v).curParam = s.curParam := rfl
@[simp] theorem setCounts_curLen (v : Vector Word32 Config.nBins) : (s.setCounts v).curLen = s.curLen := rfl
@[simp] theorem setCounts_resBuf (v : Vector Word32 Config.nBins) : (s.setCounts v).resBuf = s.resBuf := rfl
@[simp] theorem setCounts_resLen (v : Vector Word32 Config.nBins) : (s.setCounts v).resLen = s.resLen := rfl
@[simp] theorem setCounts_resValue (v : Vector Word32 Config.nBins) : (s.setCounts v).resValue = s.resValue := rfl
@[simp] theorem setCounts_resOk (v : Vector Word32 Config.nBins) : (s.setCounts v).resOk = s.resOk := rfl
@[simp] theorem setCounts_phase (v : Vector Word32 Config.nBins) : (s.setCounts v).phase = s.phase := rfl
@[simp] theorem setCounts_ready (v : Vector Word32 Config.nBins) : (s.setCounts v).ready = s.ready := rfl
@[simp] theorem setCounts_debug (v : Vector Word32 Config.nBins) : (s.setCounts v).debug = s.debug := rfl
@[simp] theorem setCounts_trace (v : Vector Word32 Config.nBins) : (s.setCounts v).trace = s.trace := rfl
@[simp] theorem setCounts_pending (v : Vector Word32 Config.nBins) : (s.setCounts v).pending = s.pending := rfl
@[simp] theorem setCounts_resetRequest (v : Vector Word32 Config.nBins) : (s.setCounts v).resetRequest = s.resetRequest := rfl
@[simp] theorem setCounts_world (v : Vector Word32 Config.nBins) : (s.setCounts v).world = s.world := rfl
@[simp] theorem setCounts_draws (v : Vector Word32 Config.nBins) : (s.setCounts v).draws = s.draws := rfl

/-! ## `setConc` -/

@[simp] theorem setConc_particleCounts (v : Vector Word32 Config.nBins) : (s.setConc v).particleCounts = s.particleCounts := rfl
@[simp] theorem setConc_massConcentrations (v : Vector Word32 Config.nBins) : (s.setConc v).massConcentrations = v := rfl
@[simp] theorem setConc_crc (v : Vector Word32 Config.nBins) : (s.setConc v).crc = s.crc := rfl
@[simp] theorem setConc_frame (v : Vector Word32 Config.nBins) : (s.setConc v).frame = s.frame := rfl
@[simp] theorem setConc_buf (v : Vector Word32 Config.nBins) : (s.setConc v).buf = s.buf := rfl
@[simp] theorem setConc_bufLen (v : Vector Word32 Config.nBins) : (s.setConc v).bufLen = s.bufLen := rfl
@[simp] theorem setConc_curOp (v : Vector Word32 Config.nBins) : (s.setConc v).curOp = s.curOp := rfl
@[simp] theorem setConc_curOpcode (v : Vector Word32 Config.nBins) : (s.setConc v).curOpcode = s.curOpcode := rfl
@[simp] theorem setConc_curParam (v : Vector Word32 Config.nBins) : (s.setConc v).curParam = s.curParam := rfl
@[simp] theorem setConc_curLen (v : Vector Word32 Config.nBins) : (s.setConc v).curLen = s.curLen := rfl
@[simp] theorem setConc_resBuf (v : Vector Word32 Config.nBins) : (s.setConc v).resBuf = s.resBuf := rfl
@[simp] theorem setConc_resLen (v : Vector Word32 Config.nBins) : (s.setConc v).resLen = s.resLen := rfl
@[simp] theorem setConc_resValue (v : Vector Word32 Config.nBins) : (s.setConc v).resValue = s.resValue := rfl
@[simp] theorem setConc_resOk (v : Vector Word32 Config.nBins) : (s.setConc v).resOk = s.resOk := rfl
@[simp] theorem setConc_phase (v : Vector Word32 Config.nBins) : (s.setConc v).phase = s.phase := rfl
@[simp] theorem setConc_ready (v : Vector Word32 Config.nBins) : (s.setConc v).ready = s.ready := rfl
@[simp] theorem setConc_debug (v : Vector Word32 Config.nBins) : (s.setConc v).debug = s.debug := rfl
@[simp] theorem setConc_trace (v : Vector Word32 Config.nBins) : (s.setConc v).trace = s.trace := rfl
@[simp] theorem setConc_pending (v : Vector Word32 Config.nBins) : (s.setConc v).pending = s.pending := rfl
@[simp] theorem setConc_resetRequest (v : Vector Word32 Config.nBins) : (s.setConc v).resetRequest = s.resetRequest := rfl
@[simp] theorem setConc_world (v : Vector Word32 Config.nBins) : (s.setConc v).world = s.world := rfl
@[simp] theorem setConc_draws (v : Vector Word32 Config.nBins) : (s.setConc v).draws = s.draws := rfl

/-! ## `setResBuf` -/

@[simp] theorem setResBuf_particleCounts : (s.setResBuf).particleCounts = s.particleCounts := by unfold setResBuf; rfl
@[simp] theorem setResBuf_massConcentrations : (s.setResBuf).massConcentrations = s.massConcentrations := by unfold setResBuf; rfl
@[simp] theorem setResBuf_crc : (s.setResBuf).crc = s.crc := by unfold setResBuf; rfl
@[simp] theorem setResBuf_frame : (s.setResBuf).frame = s.frame := by unfold setResBuf; rfl
@[simp] theorem setResBuf_buf : (s.setResBuf).buf = s.buf := by unfold setResBuf; rfl
@[simp] theorem setResBuf_bufLen : (s.setResBuf).bufLen = s.bufLen := by unfold setResBuf; rfl
@[simp] theorem setResBuf_curOp : (s.setResBuf).curOp = s.curOp := by unfold setResBuf; rfl
@[simp] theorem setResBuf_curOpcode : (s.setResBuf).curOpcode = s.curOpcode := by unfold setResBuf; rfl
@[simp] theorem setResBuf_curParam : (s.setResBuf).curParam = s.curParam := by unfold setResBuf; rfl
@[simp] theorem setResBuf_curLen : (s.setResBuf).curLen = s.curLen := by unfold setResBuf; rfl
@[simp] theorem setResBuf_resBuf : (s.setResBuf).resBuf = overwrite s.resBuf s.buf s.bufLen.toNat := by unfold setResBuf; rfl
@[simp] theorem setResBuf_resLen : (s.setResBuf).resLen = s.bufLen := by unfold setResBuf; rfl
@[simp] theorem setResBuf_resValue : (s.setResBuf).resValue = s.resValue := by unfold setResBuf; rfl
@[simp] theorem setResBuf_resOk : (s.setResBuf).resOk = s.resOk := by unfold setResBuf; rfl
@[simp] theorem setResBuf_phase : (s.setResBuf).phase = s.phase := by unfold setResBuf; rfl
@[simp] theorem setResBuf_ready : (s.setResBuf).ready = s.ready := by unfold setResBuf; rfl
@[simp] theorem setResBuf_debug : (s.setResBuf).debug = s.debug := by unfold setResBuf; rfl
@[simp] theorem setResBuf_trace : (s.setResBuf).trace = s.trace := by unfold setResBuf; rfl
@[simp] theorem setResBuf_pending : (s.setResBuf).pending = s.pending := by unfold setResBuf; rfl
@[simp] theorem setResBuf_resetRequest : (s.setResBuf).resetRequest = s.resetRequest := by unfold setResBuf; rfl
@[simp] theorem setResBuf_world : (s.setResBuf).world = s.world := by unfold setResBuf; rfl
@[simp] theorem setResBuf_draws : (s.setResBuf).draws = s.draws := by unfold setResBuf; rfl

/-! ## `setResValue` -/

@[simp] theorem setResValue_particleCounts (v : Word16) : (s.setResValue v).particleCounts = s.particleCounts := rfl
@[simp] theorem setResValue_massConcentrations (v : Word16) : (s.setResValue v).massConcentrations = s.massConcentrations := rfl
@[simp] theorem setResValue_crc (v : Word16) : (s.setResValue v).crc = s.crc := rfl
@[simp] theorem setResValue_frame (v : Word16) : (s.setResValue v).frame = s.frame := rfl
@[simp] theorem setResValue_buf (v : Word16) : (s.setResValue v).buf = s.buf := rfl
@[simp] theorem setResValue_bufLen (v : Word16) : (s.setResValue v).bufLen = s.bufLen := rfl
@[simp] theorem setResValue_curOp (v : Word16) : (s.setResValue v).curOp = s.curOp := rfl
@[simp] theorem setResValue_curOpcode (v : Word16) : (s.setResValue v).curOpcode = s.curOpcode := rfl
@[simp] theorem setResValue_curParam (v : Word16) : (s.setResValue v).curParam = s.curParam := rfl
@[simp] theorem setResValue_curLen (v : Word16) : (s.setResValue v).curLen = s.curLen := rfl
@[simp] theorem setResValue_resBuf (v : Word16) : (s.setResValue v).resBuf = s.resBuf := rfl
@[simp] theorem setResValue_resLen (v : Word16) : (s.setResValue v).resLen = s.resLen := rfl
@[simp] theorem setResValue_resValue (v : Word16) : (s.setResValue v).resValue = v := rfl
@[simp] theorem setResValue_resOk (v : Word16) : (s.setResValue v).resOk = s.resOk := rfl
@[simp] theorem setResValue_phase (v : Word16) : (s.setResValue v).phase = s.phase := rfl
@[simp] theorem setResValue_ready (v : Word16) : (s.setResValue v).ready = s.ready := rfl
@[simp] theorem setResValue_debug (v : Word16) : (s.setResValue v).debug = s.debug := rfl
@[simp] theorem setResValue_trace (v : Word16) : (s.setResValue v).trace = s.trace := rfl
@[simp] theorem setResValue_pending (v : Word16) : (s.setResValue v).pending = s.pending := rfl
@[simp] theorem setResValue_resetRequest (v : Word16) : (s.setResValue v).resetRequest = s.resetRequest := rfl
@[simp] theorem setResValue_world (v : Word16) : (s.setResValue v).world = s.world := rfl
@[simp] theorem setResValue_draws (v : Word16) : (s.setResValue v).draws = s.draws := rfl

/-! ## `setResOk` -/

@[simp] theorem setResOk_particleCounts (b : Bool) : (s.setResOk b).particleCounts = s.particleCounts := rfl
@[simp] theorem setResOk_massConcentrations (b : Bool) : (s.setResOk b).massConcentrations = s.massConcentrations := rfl
@[simp] theorem setResOk_crc (b : Bool) : (s.setResOk b).crc = s.crc := rfl
@[simp] theorem setResOk_frame (b : Bool) : (s.setResOk b).frame = s.frame := rfl
@[simp] theorem setResOk_buf (b : Bool) : (s.setResOk b).buf = s.buf := rfl
@[simp] theorem setResOk_bufLen (b : Bool) : (s.setResOk b).bufLen = s.bufLen := rfl
@[simp] theorem setResOk_curOp (b : Bool) : (s.setResOk b).curOp = s.curOp := rfl
@[simp] theorem setResOk_curOpcode (b : Bool) : (s.setResOk b).curOpcode = s.curOpcode := rfl
@[simp] theorem setResOk_curParam (b : Bool) : (s.setResOk b).curParam = s.curParam := rfl
@[simp] theorem setResOk_curLen (b : Bool) : (s.setResOk b).curLen = s.curLen := rfl
@[simp] theorem setResOk_resBuf (b : Bool) : (s.setResOk b).resBuf = s.resBuf := rfl
@[simp] theorem setResOk_resLen (b : Bool) : (s.setResOk b).resLen = s.resLen := rfl
@[simp] theorem setResOk_resValue (b : Bool) : (s.setResOk b).resValue = s.resValue := rfl
@[simp] theorem setResOk_resOk (b : Bool) : (s.setResOk b).resOk = b := rfl
@[simp] theorem setResOk_phase (b : Bool) : (s.setResOk b).phase = s.phase := rfl
@[simp] theorem setResOk_ready (b : Bool) : (s.setResOk b).ready = s.ready := rfl
@[simp] theorem setResOk_debug (b : Bool) : (s.setResOk b).debug = s.debug := rfl
@[simp] theorem setResOk_trace (b : Bool) : (s.setResOk b).trace = s.trace := rfl
@[simp] theorem setResOk_pending (b : Bool) : (s.setResOk b).pending = s.pending := rfl
@[simp] theorem setResOk_resetRequest (b : Bool) : (s.setResOk b).resetRequest = s.resetRequest := rfl
@[simp] theorem setResOk_world (b : Bool) : (s.setResOk b).world = s.world := rfl
@[simp] theorem setResOk_draws (b : Bool) : (s.setResOk b).draws = s.draws := rfl

/-! ## `setReady` -/

@[simp] theorem setReady_particleCounts (b : Bool) : (s.setReady b).particleCounts = s.particleCounts := rfl
@[simp] theorem setReady_massConcentrations (b : Bool) : (s.setReady b).massConcentrations = s.massConcentrations := rfl
@[simp] theorem setReady_crc (b : Bool) : (s.setReady b).crc = s.crc := rfl
@[simp] theorem setReady_frame (b : Bool) : (s.setReady b).frame = s.frame := rfl
@[simp] theorem setReady_buf (b : Bool) : (s.setReady b).buf = s.buf := rfl
@[simp] theorem setReady_bufLen (b : Bool) : (s.setReady b).bufLen = s.bufLen := rfl
@[simp] theorem setReady_curOp (b : Bool) : (s.setReady b).curOp = s.curOp := rfl
@[simp] theorem setReady_curOpcode (b : Bool) : (s.setReady b).curOpcode = s.curOpcode := rfl
@[simp] theorem setReady_curParam (b : Bool) : (s.setReady b).curParam = s.curParam := rfl
@[simp] theorem setReady_curLen (b : Bool) : (s.setReady b).curLen = s.curLen := rfl
@[simp] theorem setReady_resBuf (b : Bool) : (s.setReady b).resBuf = s.resBuf := rfl
@[simp] theorem setReady_resLen (b : Bool) : (s.setReady b).resLen = s.resLen := rfl
@[simp] theorem setReady_resValue (b : Bool) : (s.setReady b).resValue = s.resValue := rfl
@[simp] theorem setReady_resOk (b : Bool) : (s.setReady b).resOk = s.resOk := rfl
@[simp] theorem setReady_phase (b : Bool) : (s.setReady b).phase = s.phase := rfl
@[simp] theorem setReady_ready (b : Bool) : (s.setReady b).ready = b := rfl
@[simp] theorem setReady_debug (b : Bool) : (s.setReady b).debug = s.debug := rfl
@[simp] theorem setReady_trace (b : Bool) : (s.setReady b).trace = s.trace := rfl
@[simp] theorem setReady_pending (b : Bool) : (s.setReady b).pending = s.pending := rfl
@[simp] theorem setReady_resetRequest (b : Bool) : (s.setReady b).resetRequest = s.resetRequest := rfl
@[simp] theorem setReady_world (b : Bool) : (s.setReady b).world = s.world := rfl
@[simp] theorem setReady_draws (b : Bool) : (s.setReady b).draws = s.draws := rfl

/-! ## `setDebug` -/

@[simp] theorem setDebug_particleCounts (b : Bool) : (s.setDebug b).particleCounts = s.particleCounts := rfl
@[simp] theorem setDebug_massConcentrations (b : Bool) : (s.setDebug b).massConcentrations = s.massConcentrations := rfl
@[simp] theorem setDebug_crc (b : Bool) : (s.setDebug b).crc = s.crc := rfl
@[simp] theorem setDebug_frame (b : Bool) : (s.setDebug b).frame = s.frame := rfl
@[simp] theorem setDebug_buf (b : Bool) : (s.setDebug b).buf = s.buf := rfl
@[simp] theorem setDebug_bufLen (b : Bool) : (s.setDebug b).bufLen = s.bufLen := rfl
@[simp] theorem setDebug_curOp (b : Bool) : (s.setDebug b).curOp = s.curOp := rfl
@[simp] theorem setDebug_curOpcode (b : Bool) : (s.setDebug b).curOpcode = s.curOpcode := rfl
@[simp] theorem setDebug_curParam (b : Bool) : (s.setDebug b).curParam = s.curParam := rfl
@[simp] theorem setDebug_curLen (b : Bool) : (s.setDebug b).curLen = s.curLen := rfl
@[simp] theorem setDebug_resBuf (b : Bool) : (s.setDebug b).resBuf = s.resBuf := rfl
@[simp] theorem setDebug_resLen (b : Bool) : (s.setDebug b).resLen = s.resLen := rfl
@[simp] theorem setDebug_resValue (b : Bool) : (s.setDebug b).resValue = s.resValue := rfl
@[simp] theorem setDebug_resOk (b : Bool) : (s.setDebug b).resOk = s.resOk := rfl
@[simp] theorem setDebug_phase (b : Bool) : (s.setDebug b).phase = s.phase := rfl
@[simp] theorem setDebug_ready (b : Bool) : (s.setDebug b).ready = s.ready := rfl
@[simp] theorem setDebug_debug (b : Bool) : (s.setDebug b).debug = b := rfl
@[simp] theorem setDebug_trace (b : Bool) : (s.setDebug b).trace = s.trace := rfl
@[simp] theorem setDebug_pending (b : Bool) : (s.setDebug b).pending = s.pending := rfl
@[simp] theorem setDebug_resetRequest (b : Bool) : (s.setDebug b).resetRequest = s.resetRequest := rfl
@[simp] theorem setDebug_world (b : Bool) : (s.setDebug b).world = s.world := rfl
@[simp] theorem setDebug_draws (b : Bool) : (s.setDebug b).draws = s.draws := rfl

/-! ## `freeResults` -/

@[simp] theorem freeResults_particleCounts : (s.freeResults).particleCounts = s.particleCounts := rfl
@[simp] theorem freeResults_massConcentrations : (s.freeResults).massConcentrations = s.massConcentrations := rfl
@[simp] theorem freeResults_crc : (s.freeResults).crc = s.crc := rfl
@[simp] theorem freeResults_frame : (s.freeResults).frame = s.frame := rfl
@[simp] theorem freeResults_buf : (s.freeResults).buf = s.buf := rfl
@[simp] theorem freeResults_bufLen : (s.freeResults).bufLen = s.bufLen := rfl
@[simp] theorem freeResults_curOp : (s.freeResults).curOp = s.curOp := rfl
@[simp] theorem freeResults_curOpcode : (s.freeResults).curOpcode = s.curOpcode := rfl
@[simp] theorem freeResults_curParam : (s.freeResults).curParam = s.curParam := rfl
@[simp] theorem freeResults_curLen : (s.freeResults).curLen = s.curLen := rfl
@[simp] theorem freeResults_resBuf : (s.freeResults).resBuf = Config.freeResBuf s.draws := rfl
@[simp] theorem freeResults_resLen : (s.freeResults).resLen = Config.freeResLen s.draws := rfl
@[simp] theorem freeResults_resValue : (s.freeResults).resValue = Config.freeResValue s.draws := rfl
@[simp] theorem freeResults_resOk : (s.freeResults).resOk = Config.freeResOk s.draws := rfl
@[simp] theorem freeResults_phase : (s.freeResults).phase = s.phase := rfl
@[simp] theorem freeResults_ready : (s.freeResults).ready = s.ready := rfl
@[simp] theorem freeResults_debug : (s.freeResults).debug = s.debug := rfl
@[simp] theorem freeResults_trace : (s.freeResults).trace = s.trace := rfl
@[simp] theorem freeResults_pending : (s.freeResults).pending = s.pending := rfl
@[simp] theorem freeResults_resetRequest : (s.freeResults).resetRequest = s.resetRequest := rfl
@[simp] theorem freeResults_world : (s.freeResults).world = s.world := rfl
@[simp] theorem freeResults_draws : (s.freeResults).draws = s.draws + 1 := rfl

/-! ## `leaveDone` -/

@[simp] theorem leaveDone_particleCounts : s.leaveDone.particleCounts = s.particleCounts := rfl
@[simp] theorem leaveDone_massConcentrations : s.leaveDone.massConcentrations = s.massConcentrations := rfl
@[simp] theorem leaveDone_crc : s.leaveDone.crc = s.crc := rfl
@[simp] theorem leaveDone_frame : s.leaveDone.frame = s.frame := rfl
@[simp] theorem leaveDone_buf : s.leaveDone.buf = s.buf := rfl
@[simp] theorem leaveDone_bufLen : s.leaveDone.bufLen = s.bufLen := rfl
@[simp] theorem leaveDone_curOp : s.leaveDone.curOp = s.curOp := rfl
@[simp] theorem leaveDone_curOpcode : s.leaveDone.curOpcode = s.curOpcode := rfl
@[simp] theorem leaveDone_curParam : s.leaveDone.curParam = s.curParam := rfl
@[simp] theorem leaveDone_curLen : s.leaveDone.curLen = s.curLen := rfl
@[simp] theorem leaveDone_resBuf : s.leaveDone.resBuf = Config.freeResBuf s.draws := rfl
@[simp] theorem leaveDone_resLen : s.leaveDone.resLen = Config.freeResLen s.draws := rfl
@[simp] theorem leaveDone_resValue : s.leaveDone.resValue = Config.freeResValue s.draws := rfl
@[simp] theorem leaveDone_resOk : s.leaveDone.resOk = Config.freeResOk s.draws := rfl
@[simp] theorem leaveDone_phase : s.leaveDone.phase = .idle := rfl
@[simp] theorem leaveDone_ready : s.leaveDone.ready = s.ready := rfl
@[simp] theorem leaveDone_debug : s.leaveDone.debug = s.debug := rfl
@[simp] theorem leaveDone_trace : s.leaveDone.trace = s.trace := rfl
@[simp] theorem leaveDone_pending : s.leaveDone.pending = s.pending := rfl
@[simp] theorem leaveDone_resetRequest : s.leaveDone.resetRequest = s.resetRequest := rfl
@[simp] theorem leaveDone_world : s.leaveDone.world = s.world := rfl
@[simp] theorem leaveDone_draws : s.leaveDone.draws = s.draws + 1 := rfl

/-! ## `takePending` -/

@[simp] theorem takePending_particleCounts : (s.takePending).particleCounts = s.particleCounts := rfl
@[simp] theorem takePending_massConcentrations : (s.takePending).massConcentrations = s.massConcentrations := rfl
@[simp] theorem takePending_crc : (s.takePending).crc = s.crc := rfl
@[simp] theorem takePending_frame : (s.takePending).frame = s.frame := rfl
@[simp] theorem takePending_buf : (s.takePending).buf = s.buf := rfl
@[simp] theorem takePending_bufLen : (s.takePending).bufLen = s.bufLen := rfl
@[simp] theorem takePending_curOp : (s.takePending).curOp = s.curOp := rfl
@[simp] theorem takePending_curOpcode : (s.takePending).curOpcode = s.curOpcode := rfl
@[simp] theorem takePending_curParam : (s.takePending).curParam = s.curParam := rfl
@[simp] theorem takePending_curLen : (s.takePending).curLen = s.curLen := rfl
@[simp] theorem takePending_resBuf : (s.takePending).resBuf = s.resBuf := rfl
@[simp] theorem takePending_resLen : (s.takePending).resLen = s.resLen := rfl
@[simp] theorem takePending_resValue : (s.takePending).resValue = s.resValue := rfl
@[simp] theorem takePending_resOk : (s.takePending).resOk = s.resOk := rfl
@[simp] theorem takePending_phase : (s.takePending).phase = s.phase := rfl
@[simp] theorem takePending_ready : (s.takePending).ready = s.ready := rfl
@[simp] theorem takePending_debug : (s.takePending).debug = s.debug := rfl
@[simp] theorem takePending_trace : (s.takePending).trace = s.trace := rfl
@[simp] theorem takePending_pending : (s.takePending).pending = none := rfl
@[simp] theorem takePending_resetRequest : (s.takePending).resetRequest = s.resetRequest := rfl
@[simp] theorem takePending_world : (s.takePending).world = s.world := rfl
@[simp] theorem takePending_draws : (s.takePending).draws = s.draws := rfl

end Sys2Proof.Machine.State
end

