-- ==== Sys2Proof/Laws/Ops.lean ====
section
/-! SUPPORT. What the shared operations can do: one lemma per operation and outcome, which later proofs cite
instead of unfolding the operation. -/

namespace Sys2Proof.Machine

/-! ## The other agents -/

theorem World.complete_eq_none {w : World} : w.complete = none ↔ w.completions = some 0 := by
  unfold World.complete
  split <;> simp_all

/-- A completion takes one from the budget and leaves the replies alone. -/
theorem World.complete_eq_some {w w' : World} (h : w.complete = some w') : w' = w.afterCompletions 1 := by
  cases w with
  | mk c rs t =>
    cases c with
    | none => simpa [World.complete, World.afterCompletions] using h.symm
    | some n =>
      cases n with
      | zero => simp [World.complete] at h
      | succ n => simpa [World.complete, World.afterCompletions] using h.symm

theorem World.complete_of_allows {k : Nat} {w : World} (h : w.allows (k + 1)) :
    w.complete = some (w.afterCompletions 1) := by
  cases hc : w.complete with
  | none => have := h 0 (World.complete_eq_none.1 hc); omega
  | some w' => rw [World.complete_eq_some hc]

theorem World.allows_afterCompletions {j k : Nat} {w : World} (h : w.allows (j + k)) :
    (w.afterCompletions j).allows k := by
  intro n hn
  simp only [World.afterCompletions, Option.map_eq_some_iff] at hn
  obtain ⟨m, hm, rfl⟩ := hn
  have := h m hm
  omega

theorem World.allows_mono {j k : Nat} {w : World} (h : w.allows k) (hjk : j ≤ k) : w.allows j :=
  fun n hn => Nat.le_trans hjk (h n hn)

theorem World.afterCompletions_afterCompletions (j k : Nat) (w : World) :
    (w.afterCompletions j).afterCompletions k = w.afterCompletions (j + k) := by
  cases w with
  | mk c rs t => cases c <;> simp [World.afterCompletions, Nat.sub_sub]

@[simp] theorem World.afterCompletions_zero (w : World) : w.afterCompletions 0 = w := by
  cases w with
  | mk c rs t => cases c <;> simp [World.afterCompletions]

@[simp] theorem World.afterCompletions_replies (k : Nat) (w : World) :
    (w.afterCompletions k).replies = w.replies := rfl

@[simp] theorem World.afterCompletions_thereafter (k : Nat) (w : World) :
    (w.afterCompletions k).thereafter = w.thereafter := rfl

/-- The replies do not depend on the completions. -/
theorem World.answer_afterCompletions (k : Nat) (w : World) :
    (w.afterCompletions k).answer = w.answer.map fun p => (p.1, p.2.afterCompletions k) := by
  cases w with
  | mk c rs t => cases rs <;> cases t <;> simp [World.answer, World.afterCompletions]

/-- What an answer is: the next listed reply, or the repeated one. -/
theorem World.answer_eq_some {w w' : World} {r : Reply} (h : w.answer = some (r, w')) :
    (w.replies = r :: w'.replies ∧ w'.thereafter = w.thereafter ∨
      w.replies = [] ∧ w.thereafter = some r ∧ w' = w) ∧ w'.completions = w.completions := by
  unfold World.answer at h
  split at h
  · simp only [Option.some.injEq, Prod.mk.injEq] at h
    obtain ⟨rfl, rfl⟩ := h
    simp_all
  · split at h
    · simp at h
    · simp only [Option.some.injEq, Prod.mk.injEq] at h
      obtain ⟨rfl, rfl⟩ := h
      simp_all

theorem World.draw_zero (w : World) : w.draw 0 = some ([], w) := rfl

theorem World.draw_one (w : World) : w.draw 1 = w.answer.map fun p => ([p.1], p.2) := by
  unfold World.draw
  cases w.answer with
  | none => rfl
  | some p => obtain ⟨r, w'⟩ := p; simp [World.draw]

theorem World.draw_succ_eq_some {n : Nat} {w w' : World} {rs : List Reply}
    (h : w.draw (n + 1) = some (rs, w')) :
    ∃ r rs' w₁, rs = r :: rs' ∧ w.answer = some (r, w₁) ∧ w₁.draw n = some (rs', w') := by
  rw [World.draw] at h
  split at h
  · simp at h
  · rename_i r w₁ ha
    obtain ⟨p, hp, he⟩ := Option.map_eq_some_iff.1 h
    simp only [Prod.mk.injEq] at he
    obtain ⟨rfl, rfl⟩ := he
    exact ⟨r, p.1, w₁, rfl, ha, hp⟩

theorem World.draw_afterCompletions (k n : Nat) (w : World) :
    (w.afterCompletions k).draw n = (w.draw n).map fun p => (p.1, p.2.afterCompletions k) := by
  induction n generalizing w with
  | zero => rfl
  | succ n ih =>
    rw [World.draw, World.draw, World.answer_afterCompletions]
    cases w.answer with
    | none => rfl
    | some p =>
      obtain ⟨r, w₁⟩ := p
      simp only [Option.map_some, ih]
      cases w₁.draw n <;> rfl

theorem World.Gives_afterCompletions {k n : Nat} {w w' : World} {bad : List Reply} {good : Reply}
    (h : w.Gives n bad good w') : (w.afterCompletions k).Gives n bad good (w'.afterCompletions k) := by
  obtain ⟨hd, hb, hg⟩ := h
  refine ⟨?_, hb, hg⟩
  rw [World.draw_afterCompletions, hd]
  rfl

/-- The replies that fail before a valid one come from the list, so a command uses them up within its budget. -/
theorem World.Gives_length {n : Nat} {w w' : World} {bad : List Reply} {good : Reply}
    (h : w.Gives n bad good w') :
    bad.length + w'.replies.length ≤ w.replies.length ∧
      (w'.replies.length + bad.length + 1 = w.replies.length ∨
        w'.replies = [] ∧ w'.thereafter = some good ∧ bad.length = w.replies.length) ∧
      w'.thereafter = w.thereafter ∧ w'.completions = w.completions := by
  obtain ⟨hd, hb, hg⟩ := h
  induction bad generalizing w with
  | nil =>
    obtain ⟨r, rs, w₁, he, ha, hz⟩ := World.draw_succ_eq_some hd
    simp only [List.nil_append, List.cons.injEq] at he
    obtain ⟨rfl, rfl⟩ := he
    simp only [List.length_nil, World.draw_zero, Option.some.injEq, Prod.mk.injEq, true_and] at hz
    subst hz
    obtain ⟨h1 | h1, hc⟩ := World.answer_eq_some ha
    · simp [h1, hc]
    · simp [h1]
  | cons b bad ih =>
    obtain ⟨r, rs, w₁, he, ha, hz⟩ := World.draw_succ_eq_some hd
    simp only [List.cons_append, List.cons.injEq] at he
    obtain ⟨rfl, rfl⟩ := he
    obtain ⟨h1 | h1, hc⟩ := World.answer_eq_some ha
    · have := ih (w := w₁) (by simpa using hz) (fun r hr => hb r (by simp [hr]))
      rw [h1.1]
      simp only [List.length_cons]
      obtain ⟨g1, g2, g3, g4⟩ := this
      refine ⟨by omega, ?_, by rw [g3, h1.2], by rw [g4, hc]⟩
      rcases g2 with g2 | g2
      · left; omega
      · right; exact ⟨g2.1, g2.2.1, by omega⟩
    · -- the repeated reply is not valid, so no valid one follows
      exfalso
      obtain ⟨h1, h2, rfl⟩ := h1
      have key : ∀ (k : Nat) (l : List Reply) (v : World), w₁.draw k = some (l, v) → ∀ x ∈ l, x = b := by
        intro k
        induction k with
        | zero =>
          intro l v h x hx
          simp only [World.draw_zero, Option.some.injEq, Prod.mk.injEq] at h
          simp [← h.1] at hx
        | succ k ihk =>
          intro l v h x hx
          obtain ⟨r', rs', w₂, rfl, ha', hz'⟩ := World.draw_succ_eq_some h
          obtain ⟨h3 | h3, -⟩ := World.answer_eq_some ha'
          · simp [h1] at h3
          · obtain ⟨-, h4, rfl⟩ := h3
            rw [h2] at h4
            simp only [Option.some.injEq] at h4
            rcases List.mem_cons.1 hx with rfl | hx
            · exact h4.symm
            · exact ihk _ _ hz' x hx
      have := key _ _ _ hz good (by simp)
      subst this
      exact hb good (by simp) hg

/-! ## Waiting for a primitive -/

theorem State.onComplete_of_allows {j : Nat} {s : State} {k : State → State} (h : s.world.allows (j + 1)) :
    s.onComplete k = k (s.setWorld (s.world.afterCompletions 1)) := by
  unfold State.onComplete
  rw [World.complete_of_allows h]

theorem State.onComplete_of_hang {s : State} {k : State → State} (h : s.world.completions = some 0) :
    s.onComplete k = s := by
  unfold State.onComplete
  rw [World.complete_eq_none.2 h]

/-- Everything waiting can do: stay, or go on in the world with one completion less. -/
theorem State.onComplete_cases (s : State) (k : State → State) :
    s.onComplete k = s ∨ s.onComplete k = k (s.setWorld (s.world.afterCompletions 1)) := by
  unfold State.onComplete
  split
  · exact .inl rfl
  · rename_i w h
    rw [World.complete_eq_some h]
    exact .inr rfl

theorem State.readReply_of_answer {s : State} {n : BitVec 6} {k : State → State} {r : Reply} {w : World}
    (h : s.world.answer = some (r, w)) :
    s.readReply n k =
      k (((s.setWorld w).setReply r n).record (.busRead Config.busAddr n.toNat (firstBytes r n.toNat))) := by
  unfold State.readReply
  rw [h]
  rfl

theorem State.readReply_of_hang {s : State} {n : BitVec 6} {k : State → State} (h : s.world.answer = none) :
    s.readReply n k = s := by
  unfold State.readReply
  rw [h]

/-- Everything a reply read can do: stay, or go on with one reply in `buf` and in the trace. -/
theorem State.readReply_cases (s : State) (n : BitVec 6) (k : State → State) :
    s.readReply n k = s ∨ ∃ r w, s.world.answer = some (r, w) ∧ s.readReply n k =
      k (((s.setWorld w).setReply r n).record (.busRead Config.busAddr n.toNat (firstBytes r n.toNat))) := by
  cases h : s.world.answer with
  | none => exact .inl (State.readReply_of_hang h)
  | some p => exact .inr ⟨p.1, p.2, rfl, State.readReply_of_answer h⟩

/-! ## Buffers and frames -/

/-- The command frame, written out (30_encoding.md R61). -/
theorem commandFrame_eq (opcode param : Byte) : commandFrame opcode param = #v[opcode, param, 0, 0, 0, 0, 0, 0] :=
  rfl

theorem commandFrame_toList (opcode param : Byte) :
    (commandFrame opcode param).toList = [opcode, param, 0, 0, 0, 0, 0, 0] := rfl

@[simp] theorem overwrite_getElem (b r : Vector Byte Config.maxReplyLen) (n i : Nat)
    (h : i < Config.maxReplyLen) : (overwrite b r n)[i] = if i < n then r[i] else b[i] := by
  simp [overwrite]

/-- Writing n bytes over n bytes written before keeps nothing of those. -/
@[simp] theorem overwrite_overwrite (b r r' : Vector Byte Config.maxReplyLen) (n : Nat) :
    overwrite (overwrite b r n) r' n = overwrite b r' n := by
  ext i h
  simp only [overwrite_getElem]
  split <;> rfl

/-- Copying n bytes of a buffer that holds n bytes of a reply copies the reply. -/
theorem overwrite_of_overwrite (a b r : Vector Byte Config.maxReplyLen) (n : Nat) :
    overwrite a (overwrite b r n) n = overwrite a r n := by
  ext i h
  simp only [overwrite_getElem]
  split <;> rfl

/-- The first n bytes of a buffer that holds n bytes of a reply are those of the reply. -/
theorem overwrite_take (b : Vector Byte Config.maxReplyLen) (r : Reply) (n : Nat) :
    (overwrite b r n).toList.take n = firstBytes r n := by
  apply List.ext_getElem
  · simp [firstBytes]
  · intro i h₁ h₂
    simp only [List.length_take, Vector.length_toList] at h₁
    simp only [firstBytes, List.getElem_take, Vector.getElem_toList]
    rw [overwrite_getElem _ _ _ _ (by omega)]
    simp only [ite_eq_left_iff, not_lt]
    omega

theorem firstBytes_length (r : Reply) (n : Nat) : (firstBytes r n).length = min n 32 := by
  simp [firstBytes]

/-! ## Acceptance -/

theorem acceptHost_notIdle {needsReady lenOk : Bool} {run : State → State} {s : State} (h : s.phase ≠ .idle) :
    acceptHost needsReady lenOk run s = .next s := by
  simp [acceptHost, h]

theorem acceptWire_notIdle {run : State → State} {s : State} (h : s.phase ≠ .idle) :
    acceptWire run s = .next s := by
  simp [acceptWire, h]

theorem acceptHost_idle {needsReady lenOk : Bool} {run : State → State} {s : State} (h : s.phase = .idle)
    (hr : needsReady = true → s.ready = true) (hl : lenOk = true) :
    acceptHost needsReady lenOk run s = .next (run s.freeResults) := by
  cases needsReady <;> simp_all [acceptHost]

theorem acceptWire_idle {run : State → State} {s : State} (h : s.phase = .idle) (hr : s.ready = true) :
    acceptWire run s = .next (run s) := by
  simp [acceptWire, h, hr]

theorem acceptWire_notReady {run : State → State} {s : State} (h : s.phase = .idle) (hr : s.ready = false) :
    acceptWire run s = .refused .notReady := by
  simp [acceptWire, h, hr]

theorem acceptHost_notReady {lenOk : Bool} {run : State → State} {s : State} (h : s.phase = .idle)
    (hr : s.ready = false) : acceptHost true lenOk run s = .refused .notReady := by
  simp [acceptHost, h, hr]

theorem acceptHost_badLength {needsReady : Bool} {run : State → State} {s : State} (h : s.phase = .idle)
    (hr : needsReady = true → s.ready = true) : acceptHost needsReady false run s = .refused .badLength := by
  cases needsReady <;> simp_all [acceptHost]

/-- Everything acceptance can do with a next state: nothing, or start the command with open results. -/
theorem acceptHost_next {needsReady lenOk : Bool} {run : State → State} {s t : State}
    (h : acceptHost needsReady lenOk run s = .next t) :
    s.phase ≠ .idle ∧ t = s ∨
      s.phase = .idle ∧ (needsReady = true → s.ready = true) ∧ lenOk = true ∧ t = run s.freeResults := by
  unfold acceptHost at h
  split at h
  · simp_all
  · split at h
    · simp at h
    · split at h
      · simp at h
      · cases needsReady <;> simp_all

theorem acceptWire_next {run : State → State} {s t : State} (h : acceptWire run s = .next t) :
    s.phase ≠ .idle ∧ t = s ∨ s.phase = .idle ∧ s.ready = true ∧ t = run s := by
  unfold acceptWire at h
  split at h
  · simp_all
  · split at h <;> simp_all

end Sys2Proof.Machine
end

