-- ==== Sys2Proof/Laws/Sequencer.lean ====
section
/-! SUPPORT. What the sequencer does: one lemma per phase, a whole pass of the framer's loop, and a whole
checksummed read. -/

namespace Sys2Proof.Machine

/-! ## Running -/

theorem advanceN_add (m n : Nat) (s : State) : advanceN (m + n) s = advanceN n (advanceN m s) := by
  induction m generalizing s with
  | zero => simp [advanceN]
  | succ m ih => rw [Nat.succ_add, advanceN, advanceN, ih]

theorem advanceN_of_fixed {s : State} (h : advance s = s) (n : Nat) : advanceN n s = s := by
  induction n with
  | zero => rfl
  | succ n ih => rw [advanceN, h, ih]

theorem advance_of_done {s : State} (h : s.phase = .done) : advance s = s := by simp [advance, h]

theorem advance_of_idle {s : State} (h : s.phase = .idle) : advance s = s := by simp [advance, h]

/-- A command that has completed within m transitions is not run further. -/
theorem advanceN_completed {m n : Nat} {s t : State} (hmn : m ≤ n) (h : advanceN m s = t)
    (ht : t.phase = .done ∨ t.phase = .idle) : advanceN n s = t := by
  obtain ⟨k, rfl⟩ := Nat.exists_eq_add_of_le hmn
  rw [advanceN_add, h]
  rcases ht with ht | ht
  · exact advanceN_of_fixed (advance_of_done ht) k
  · exact advanceN_of_fixed (advance_of_idle ht) k

/-- A property every transition keeps is kept by running a command. -/
theorem advanceN_induction {P : State → Prop} (hstep : ∀ s, P s → P (advance s)) (n : Nat) {s : State}
    (h : P s) : P (advanceN n s) := by
  induction n generalizing s with
  | zero => exact h
  | succ n ih => exact ih (hstep s h)

/-! ## The validator -/

/-- The validator's answer on a sequence as long as it is told is checksum-validity (30_encoding.md R77). -/
theorem valCheck_eq_true_iff {s : List Byte} {n : Nat} (hn : 2 ≤ n) (hl : s.length = n) :
    valCheck s n = true ↔ checksumValid s := by
  subst hl
  simp [valCheck, checksumValid, valComputed, valReceived, hn]

theorem valCheck_firstBytes {n : Nat} (r : Reply) (h2 : 2 ≤ n) (h32 : n ≤ 32) :
    valCheck (firstBytes r n) n = true ↔ ReplyValid n r :=
  valCheck_eq_true_iff h2 (by rw [firstBytes_length]; omega)

theorem payload_firstBytes (r : Reply) (n : Nat) : payload (firstBytes r n) n = firstBytes r (n - 2) := by
  simp [payload, firstBytes, Config.trailerLen, List.take_take]

/-! ## The phases of the framer's loop -/

theorem advance_of_write {s : State} (h : s.phase = .write) : advance s = stepWrite s := by simp [advance, h]

theorem advance_of_read {s : State} (h : s.phase = .read) : advance s = stepRead s := by simp [advance, h]

theorem advance_of_check {s : State} (h : s.phase = .check) : advance s = stepCheck s := by simp [advance, h]

theorem advance_of_backoff {s : State} (h : s.phase = .backoff) : advance s = stepBackoff s := by
  simp [advance, h]

theorem advance_of_decode {s : State} (h : s.phase = .decode) : advance s = stepDecode s := by
  simp [advance, h]

/-- The command write completes: the frame is sent and the next phase follows (40_transport.md R81). -/
theorem stepWrite_of_allows {j : Nat} {s : State} (h : s.world.allows (j + 1)) :
    stepWrite s = afterWrite { s with
      frame := #v[s.curOpcode, s.curParam, 0, 0, 0, 0, 0, 0]
      trace := s.trace ++ [sent s.curOpcode s.curParam]
      world := s.world.afterCompletions 1 } := by
  unfold stepWrite State.writeCommand
  rw [State.onComplete_of_allows (j := j) (by simpa using h)]
  rfl

theorem afterWrite_of_reads {s : State} (h : s.curOp.replyKind ≠ .none) : afterWrite s = s.goTo .read := by
  unfold afterWrite
  split <;> simp_all

/-- The reply read completes (R83). -/
theorem stepRead_of_answer {s : State} {r : Reply} {w : World} (h : s.world.answer = some (r, w)) :
    stepRead s = afterRead { s with
      buf := overwrite s.buf r s.curLen.toNat
      bufLen := s.curLen
      trace := s.trace ++ [received s.curLen.toNat r]
      world := w } := by
  unfold stepRead
  rw [State.readReply_of_answer h]
  simp only [State.setWorld, State.setReply, State.record, received]
  rfl

theorem afterRead_of_checked {s : State} (h : s.curOp.replyKind = .checked) : afterRead s = s.goTo .check := by
  unfold afterRead
  split <;> simp_all

/-- A failed check changes `crc` and the phase, nothing else (60_exceptions.md R175). -/
theorem stepCheck_of_mismatch {s : State} (h : s.matchFlag = false) :
    stepCheck s = { s with crc := crcOver (payload s.reply s.bufLen.toNat), phase := .backoff } := by
  unfold stepCheck
  simp only [h]
  rfl

/-- What follows a successful check: a generic read is complete, any other command decodes (R128). -/
def afterMatch (s : State) : State :=
  if s.curOp = .checksummedRead then s.setResBuf.complete else s.goTo .decode

theorem stepCheck_of_match {s : State} (h : s.matchFlag = true) :
    stepCheck s = afterMatch { s with crc := crcOver (payload s.reply s.bufLen.toNat) } := by
  unfold stepCheck afterMatch
  simp only [h, if_true]
  rfl

/-- The backoff wait ends (R121). -/
theorem stepBackoff_of_allows {j : Nat} {s : State} (h : s.world.allows (j + 1)) :
    stepBackoff s = { s with
      trace := s.trace ++ [.wait 1000], world := s.world.afterCompletions 1, phase := .write } := by
  unfold stepBackoff State.wait
  rw [State.onComplete_of_allows (j := j) h]
  rfl

/-! ## A pass of the loop -/

/-- The state in `CHECK` after one write and one reply. -/
def State.inCheck (r : Reply) (w : World) (s : State) : State :=
  { s with
    frame := #v[s.curOpcode, s.curParam, 0, 0, 0, 0, 0, 0]
    buf := overwrite s.buf r s.curLen.toNat
    bufLen := s.curLen
    trace := s.trace ++ [sent s.curOpcode s.curParam, received s.curLen.toNat r]
    world := w.afterCompletions 1
    phase := .check }

theorem State.inCheck_reply (r : Reply) (w : World) (s : State) :
    (s.inCheck r w).reply = firstBytes r s.curLen.toNat := by
  unfold State.reply State.inCheck
  exact overwrite_take _ _ _

theorem State.inCheck_matchFlag {r : Reply} {w : World} {s : State} (h2 : 2 ≤ s.curLen.toNat)
    (h32 : s.curLen.toNat ≤ 32) : (s.inCheck r w).matchFlag = true ↔ ReplyValid s.curLen.toNat r := by
  unfold State.matchFlag
  rw [State.inCheck_reply]
  exact valCheck_firstBytes r h2 h32

theorem State.inCheck_crc (r : Reply) (w : World) (s : State) :
    crcOver (payload (s.inCheck r w).reply (s.inCheck r w).bufLen.toNat) =
      crcOver (firstBytes r (s.curLen.toNat - 2)) := by
  rw [State.inCheck_reply]
  exact congrArg crcOver (payload_firstBytes r _)

/-- Write and read: the state in `CHECK` after one reply. -/
theorem advanceN_toCheck {j : Nat} {s : State} {r : Reply} {w : World} (hph : s.phase = .write)
    (hk : s.curOp.replyKind = .checked) (ha : s.world.allows (j + 1)) (hr : s.world.answer = some (r, w)) :
    advanceN 2 s = s.inCheck r w := by
  have h1 := afterWrite_of_reads (s := { s with
      frame := #v[s.curOpcode, s.curParam, 0, 0, 0, 0, 0, 0]
      trace := s.trace ++ [sent s.curOpcode s.curParam]
      world := s.world.afterCompletions 1 }) (by simp [hk])
  rw [advanceN, advanceN, advanceN, advance_of_write hph, stepWrite_of_allows ha, h1,
    advance_of_read (by rfl), stepRead_of_answer (r := r) (w := w.afterCompletions 1)
      (by simp [World.answer_afterCompletions, hr]),
    afterRead_of_checked (by simpa using hk)]
  simp [State.goTo, State.inCheck, List.append_assoc]

/-- The state after a failed pass (R122): back in `WRITE`, the latches and the results untouched. -/
def State.afterFailedPass (r : Reply) (w : World) (s : State) : State :=
  { s with
    frame := #v[s.curOpcode, s.curParam, 0, 0, 0, 0, 0, 0]
    buf := overwrite s.buf r s.curLen.toNat
    bufLen := s.curLen
    crc := crcOver (firstBytes r (s.curLen.toNat - 2))
    trace := s.trace ++ [sent s.curOpcode s.curParam, received s.curLen.toNat r, .wait 1000]
    world := w.afterCompletions 2
    phase := .write }

/-- A failed pass (R122): write, read, check, wait. -/
theorem advanceN_failedPass {j : Nat} {s : State} {r : Reply} {w : World} (hph : s.phase = .write)
    (hk : s.curOp.replyKind = .checked) (h2 : 2 ≤ s.curLen.toNat) (h32 : s.curLen.toNat ≤ 32)
    (ha : s.world.allows (j + 2)) (hr : s.world.answer = some (r, w)) (hbad : ¬ ReplyValid s.curLen.toNat r) :
    advanceN 4 s = s.afterFailedPass r w := by
  have hwc : w.completions = s.world.completions := (World.answer_eq_some hr).2
  have hm : (s.inCheck r w).matchFlag = false := by
    rw [Bool.eq_false_iff]
    exact fun h => hbad ((State.inCheck_matchFlag h2 h32).1 h)
  have hcheck := stepCheck_of_mismatch hm
  rw [State.inCheck_crc] at hcheck
  have hw : (w.afterCompletions 1).allows (j + 1) := by
    apply World.allows_afterCompletions
    intro n hn
    have := ha n (by rw [← hwc, hn])
    omega
  have hback := stepBackoff_of_allows (j := j)
    (s := { s.inCheck r w with crc := crcOver (firstBytes r (s.curLen.toNat - 2)), phase := .backoff }) hw
  rw [show (4 : Nat) = 2 + 2 from rfl, advanceN_add, advanceN_toCheck (j := j + 1) hph hk ha hr,
    advanceN, advanceN, advanceN, advance_of_check (s := s.inCheck r w) rfl, hcheck,
    advance_of_backoff (by rfl), hback]
  simp only [State.inCheck, State.afterFailedPass, World.afterCompletions_afterCompletions, List.append_assoc]
  rfl

/-- A whole checksummed read (R121, R122): after the failing replies and the valid one, the scratch state, the
trace and the world are those of `State.afterRead`. -/
theorem advanceN_checkedRead {s : State} {bad : List Reply} {good : Reply} {w : World}
    (hph : s.phase = .write) (hk : s.curOp.replyKind = .checked) (hp : s.curParam = 0)
    (h2 : 2 ≤ s.curLen.toNat) (h32 : s.curLen.toNat ≤ 32)
    (hg : s.world.Gives s.curLen.toNat bad good w) (ha : s.world.allows (2 * bad.length + 1)) :
    advanceN (4 * bad.length + 3) s =
      afterMatch { s.afterRead s.curOp s.curOpcode s.curLen bad good w with phase := .check } := by
  induction bad generalizing s w with
  | nil =>
    obtain ⟨hd, -, hv⟩ := hg
    obtain ⟨r, rs, w₁, he, han, hz⟩ := World.draw_succ_eq_some hd
    simp only [List.nil_append, List.cons.injEq] at he
    obtain ⟨rfl, rfl⟩ := he
    simp only [List.length_nil, World.draw_zero, Option.some.injEq, Prod.mk.injEq, true_and] at hz
    subst hz
    have hcheck := stepCheck_of_match ((State.inCheck_matchFlag (w := w₁) h2 h32).2 hv)
    rw [State.inCheck_crc] at hcheck
    rw [show 4 * ([] : List Reply).length + 3 = 2 + 1 from rfl, advanceN_add,
      advanceN_toCheck (j := 0) hph hk (by simpa using ha) han, advanceN, advanceN,
      advance_of_check (s := s.inCheck good w₁) rfl, hcheck]
    simp only [State.inCheck, State.afterRead, readEvents, hp, List.flatMap_nil, List.nil_append,
      List.length_nil, Nat.mul_zero, Nat.zero_add]
  | cons b bad ih =>
    obtain ⟨hd, hb, hv⟩ := hg
    obtain ⟨r, rs, w₁, he, han, hz⟩ := World.draw_succ_eq_some hd
    simp only [List.cons_append, List.cons.injEq] at he
    obtain ⟨rfl, rfl⟩ := he
    have hwc : w₁.completions = s.world.completions := (World.answer_eq_some han).2
    have hg' : (s.afterFailedPass b w₁).world.Gives s.curLen.toNat bad good (w.afterCompletions 2) :=
      World.Gives_afterCompletions ⟨by simpa using hz, fun x hx => hb x (by simp [hx]), hv⟩
    have ha' : (s.afterFailedPass b w₁).world.allows (2 * bad.length + 1) := by
      apply World.allows_afterCompletions (j := 2)
      intro n hn
      have := ha n (by rw [← hwc, hn])
      simp at this
      omega
    rw [show 4 * (b :: bad).length + 3 = 4 + (4 * bad.length + 3) by simp; omega, advanceN_add,
      advanceN_failedPass (j := 2 * bad.length + 1) hph hk h2 h32
        (World.allows_mono ha (by simp; omega)) han (hb b (by simp)),
      ih (s := s.afterFailedPass b w₁) (w := w.afterCompletions 2) rfl hk hp h2 h32 hg' ha']
    simp only [State.afterFailedPass, State.afterRead, hp, overwrite_overwrite,
      World.afterCompletions_afterCompletions, readEvents, List.flatMap_cons, List.append_assoc,
      List.length_cons, List.cons_append, List.nil_append]
    rw [show 2 + (2 * bad.length + 1) = 2 * (bad.length + 1) + 1 by omega]

/-- The passes of a checksummed read fit the budget of a command. -/
theorem budget_of_gives {n : Nat} {w w' : World} {bad : List Reply} {good : Reply}
    (h : w.Gives n bad good w') : 4 * bad.length + 4 ≤ transitionBudget w := by
  have := (World.Gives_length h).1
  unfold transitionBudget
  omega

/-- The passes of the two reads of `UPDATE` fit the budget of a command. -/
theorem budget_of_gives_gives {m n : Nat} {w w₁ w₂ : World} {bad₁ bad₂ : List Reply} {good₁ good₂ : Reply}
    (h₁ : w.Gives m bad₁ good₁ w₁) (h₂ : w₁.Gives n bad₂ good₂ w₂) :
    4 * bad₁.length + 4 * bad₂.length + 8 ≤ transitionBudget w := by
  have g₁ := (World.Gives_length h₁).1
  have g₂ := (World.Gives_length h₂).1
  unfold transitionBudget
  omega

/-! ## The latches of a command started -/

theorem latchedLen_toNat {len : Byte} (h : len.toNat ≤ 32) : (latchedLen len).toNat = len.toNat := by
  simp only [latchedLen, BitVec.toNat_setWidth]
  omega

theorem latchedLen_eq {len : Byte} : latchedLen len = BitVec.ofNat 6 len.toNat := by
  apply BitVec.eq_of_toNat_eq
  simp [latchedLen]

/-! ## Whole commands -/

/-- A command that only writes: one transition, and it is complete (40_transport.md R81). -/
theorem advance_startWrite {s : State} {op : Op} {opcode param : Byte}
    (ha : s.world.allows 1) :
    advance (startWrite op opcode param s) = afterWrite
      { s.afterWrite op opcode param with phase := .write } := by
  rw [advance_of_write rfl, stepWrite_of_allows (j := 0) (s := startWrite op opcode param s) (by simpa [startWrite] using ha)]
  rfl

/-- Past the reads of a command that reads, before its decode: the bytes in `buf` are the last reply. -/
theorem State.afterRead_reply (s : State) (op : Op) (opcode : Byte) (n : BitVec 6) (bad : List Reply)
    (good : Reply) (w : World) (p : Phase) :
    ({ s.afterRead op opcode n bad good w with phase := p }).reply = firstBytes good n.toNat := by
  unfold State.reply State.afterRead
  exact overwrite_take _ _ _

/-- The checksummed read of a command just started, up to what follows the successful check. -/
theorem advanceN_startRead {s : State} {op : Op} {opcode : Byte} {n : BitVec 6} {bad : List Reply} {good : Reply}
    {w : World} (hk : op.replyKind = .checked) (h2 : 2 ≤ n.toNat) (h32 : n.toNat ≤ 32)
    (hg : s.world.Gives n.toNat bad good w) (ha : s.world.allows (2 * bad.length + 1)) :
    advanceN (4 * bad.length + 3) (startRead op opcode n s) =
      afterMatch { s.afterRead op opcode n bad good w with phase := .check } := by
  rw [advanceN_checkedRead (s := startRead op opcode n s) (bad := bad) (good := good) (w := w) rfl hk rfl h2 h32
    hg ha]
  rfl

/-- A decode that is not the first of `UPDATE` completes the command. -/
theorem stepDecode_completes {s : State} (h : s.curOp ≠ .update) :
    (stepDecode s).phase = .done ∨ (stepDecode s).phase = .idle := by
  unfold stepDecode
  cases h1 : s.curOp <;> simp_all [State.complete, State.goTo, Op.isWire]

/-- A whole command that reads one checksummed reply and decodes it. -/
theorem runCommand_decodedRead {s : State} {op : Op} {opcode : Byte} {n : BitVec 6} {bad : List Reply}
    {good : Reply} {w : World} (hop : op ≠ .checksummedRead) (hop' : op ≠ .update)
    (hk : op.replyKind = .checked) (h2 : 2 ≤ n.toNat) (h32 : n.toNat ≤ 32)
    (hg : s.world.Gives n.toNat bad good w) (ha : s.world.allows (2 * bad.length + 1)) :
    runCommand (startRead op opcode n s) =
      stepDecode { s.afterRead op opcode n bad good w with phase := .decode } := by
  unfold runCommand
  refine advanceN_completed (m := 4 * bad.length + 3 + 1) (by have := budget_of_gives hg; simp [startRead]; omega) ?_
    (stepDecode_completes hop')
  rw [advanceN_add, advanceN_startRead hk h2 h32 hg ha, afterMatch,
    if_neg (by simpa [State.afterRead] using hop), advanceN, advanceN, advance_of_decode (by rfl)]
  rfl

end Sys2Proof.Machine
end

