-- ==== Sys2Proof/Laws/Exec.lean ====
section
/-! SUPPORT. `exec` of each instruction, as acceptance of its command: later proofs rewrite with these instead of
unfolding the dispatch and the meaning. -/

namespace Sys2Proof.Machine

variable (s : State)

theorem exec_init : exec .init s =
    acceptWire (fun s => runCommand (startWrite .init 0x10 0x01 s)) s := rfl

theorem exec_readCounts : exec .readCounts s =
    acceptWire (fun s => runCommand (startRead .readCounts 0x11 30 s)) s := rfl

theorem exec_readConc : exec .readConc s =
    acceptWire (fun s => runCommand (startRead .readConc 0x12 32 s)) s := rfl

theorem exec_readVref : exec .readVref s =
    acceptWire (fun s => runCommand (startRead .readVref 0x69 4 s)) s := rfl

theorem exec_readStatus : exec .readStatus s =
    acceptWire (fun s => runCommand (startRead .readStatus 0x6A 3 s)) s := rfl

theorem exec_fanControl (p : Bool) : exec (.fanControl p) s =
    acceptWire (fun s => runCommand (startWrite .fanControl 0x2B (boolByte p) s)) s := rfl

theorem exec_begin : exec .begin s =
    acceptHost false true (fun s => runCommand (startBegin s)) s := rfl

theorem exec_update : exec .update s =
    acceptHost true true (fun s => runCommand (startRead .update 0x11 30 s)) s := rfl

theorem exec_getReferenceVoltage : exec .getReferenceVoltage s =
    acceptHost true true (fun s => runCommand (startRead .getReferenceVoltage 0x69 4 s)) s := rfl

theorem exec_getStatus : exec .getStatus s =
    acceptHost true true (fun s => runCommand (startRead .getStatus 0x6A 3 s)) s := rfl

theorem exec_setFan (on : Bool) : exec (.setFan on) s =
    acceptHost true true (fun s => runCommand (startWrite .setFan 0x2B (boolByte on) s)) s := rfl

theorem exec_setDebug (enabled : Bool) : exec (.setDebug enabled) s =
    acceptHost false true (fun s => ((s.latchOp .setDebug).setDebug enabled).complete) s := rfl

theorem exec_checksummedRead (opcode len : Byte) : exec (.checksummedRead opcode len) s =
    acceptHost true (checkedLenOk len)
      (fun s => runCommand (startRead .checksummedRead opcode (latchedLen len) s)) s := rfl

theorem exec_plainRead (opcode len : Byte) : exec (.plainRead opcode len) s =
    acceptHost true (plainLenOk len)
      (fun s => runCommand (startRead .plainRead opcode (latchedLen len) s)) s := rfl

theorem exec_write (opcode param : Byte) : exec (.write opcode param) s =
    acceptHost true true (fun s => runCommand (startWrite .write opcode param s)) s := rfl

/-- The reply-length tests of the meanings are well-formedness (42_checked_read.md R120, R125). -/
theorem checkedLenOk_eq_wellFormed (opcode len : Byte) :
    checkedLenOk len = (Instr.checksummedRead opcode len).wellFormed := rfl

theorem plainLenOk_eq_wellFormed (opcode len : Byte) :
    plainLenOk len = (Instr.plainRead opcode len).wellFormed := rfl

end Sys2Proof.Machine
end

