-- ==== Sys2Proof/Laws/PerInstr.lean ====
section
/-! SUPPORT. A statement about every instruction, one lemma per constructor: the encoder's word lies in the
instruction's own row of `opcode_table.json`. -/

namespace Sys2Proof.Laws.TableRow

/-- The row of `opcode_table.json` an instruction belongs to: width, mask and match. -/
def row : Instr → Nat × Nat × Nat
  | .init => (64, 0xFFFFFFFFFFFFFFFF, 0x1001000000000000)
  | .readCounts => (64, 0xFFFFFFFFFFFFFFFF, 0x1100000000000000)
  | .readConc => (64, 0xFFFFFFFFFFFFFFFF, 0x1200000000000000)
  | .readVref => (64, 0xFFFFFFFFFFFFFFFF, 0x6900000000000000)
  | .readStatus => (64, 0xFFFFFFFFFFFFFFFF, 0x6A00000000000000)
  | .fanControl _ => (64, 0xFFFEFFFFFFFFFFFF, 0x2B00000000000000)
  | .begin => (20, 0xF0000, 0x00000)
  | .update => (20, 0xF0000, 0x10000)
  | .getReferenceVoltage => (20, 0xF0000, 0x20000)
  | .getStatus => (20, 0xF0000, 0x30000)
  | .setFan _ => (20, 0xF0000, 0x40000)
  | .setDebug _ => (20, 0xF0000, 0x50000)
  | .checksummedRead _ _ => (20, 0xF0000, 0x60000)
  | .plainRead _ _ => (20, 0xF0000, 0x70000)
  | .write _ _ => (20, 0xF0000, 0x80000)

/-- A word lies in a row: it has the row's width, and under the row's mask it is the row's match. -/
def inRow : Code → Nat × Nat × Nat → Bool
  | .req w, (width, mask, matched) => width == 20 && w &&& BitVec.ofNat 20 mask == BitVec.ofNat 20 matched
  | .frame w, (width, mask, matched) => width == 64 && w &&& BitVec.ofNat 64 mask == BitVec.ofNat 64 matched

/-- The word the encoder writes lies in the instruction's row. -/
def Statement (i : Instr) : Prop := inRow (encode i) (row i) = true

/-- Under the mask of the `op` field a request word is its `op` field. -/
theorem reqWord_op (op : BitVec 4) (a b : Byte) : reqWord op a b &&& 0xF0000#20 = op ++ 0#16 := by
  apply BitVec.eq_of_getLsbD_eq
  intro i hi
  simp only [reqWord, BitVec.getLsbD_and, BitVec.getLsbD_append, BitVec.getLsbD_zero]
  interval_cases i <;> simp

theorem init : Statement .init := rfl
theorem readCounts : Statement .readCounts := rfl
theorem readConc : Statement .readConc := rfl
theorem readVref : Statement .readVref := rfl
theorem readStatus : Statement .readStatus := rfl
theorem fanControl (p : Bool) : Statement (.fanControl p) := by
  cases p <;> rfl
theorem begin : Statement .begin := rfl
theorem update : Statement .update := rfl
theorem getReferenceVoltage : Statement .getReferenceVoltage := rfl
theorem getStatus : Statement .getStatus := rfl
theorem setFan (on : Bool) : Statement (.setFan on) := by
  cases on <;> rfl
theorem setDebug (enabled : Bool) : Statement (.setDebug enabled) := by
  cases enabled <;> rfl
theorem checksummedRead (opcode len : Byte) : Statement (.checksummedRead opcode len) := by
  simp [Statement, inRow, encode, row, reqWord_op]
theorem plainRead (opcode len : Byte) : Statement (.plainRead opcode len) := by
  simp [Statement, inRow, encode, row, reqWord_op]
theorem write (opcode param : Byte) : Statement (.write opcode param) := by
  simp [Statement, inRow, encode, row, reqWord_op]

end Sys2Proof.Laws.TableRow
end

