-- ==== Sys2Proof/Laws/Step.lean ====
section
/-! SUPPORT. Everything one step can do with a next state, said once. -/

namespace Sys2Proof.Machine

/-- The cases of a step that takes a request. -/
theorem runPending_next {s t : State} (h : runPending s = .next t) :
    s.pending = none ∧ t = s ∨
      ∃ c i, s.pending = some c ∧ decode c = .ok i ∧ exec i s.takePending = .next t := by
  unfold runPending at h
  split at h
  · simp_all
  · split at h <;> simp_all

/-- The cases of a step: reset, an idle block with or without a request, the end of `DONE`, one transition of a
busy block. -/
theorem step_next {s t : State} (h : step s = .next t) :
    s.resetRequest = true ∧ t = s.takeReset ∨
      s.resetRequest = false ∧
        (s.phase = .idle ∧ s.pending = none ∧ t = s ∨
          s.phase = .idle ∧ (∃ c i, s.pending = some c ∧ decode c = .ok i ∧ exec i s.takePending = .next t) ∨
          s.phase = .done ∧ t = s.leaveDone ∨
          s.busy = true ∧ t = advance s) := by
  unfold step at h
  split at h
  · simp_all
  · refine .inr ⟨by simp_all, ?_⟩
    cases hp : s.phase <;> simp only [hp] at h <;> simp_all [State.busy]
    simpa using runPending_next h

/-- A step of a busy block is one transition of the phase table. -/
theorem step_of_busy {s : State} (hr : s.resetRequest = false) (hb : s.busy = true) : step s = .next (advance s) := by
  unfold step
  rw [hr]
  cases hp : s.phase <;> simp_all [State.busy]

end Sys2Proof.Machine
end

