-- ==== Sys2Proof/Tests/Slice0.lean ====
section
/-! SUPPORT. Tests. Every expected result is a vector or a program of 95_test_vectors.md (named in the comment), or is
written out from the tables of 30_encoding.md; no result is the model's own. Then one witness for the hypotheses
of each statement that has some. -/

namespace Sys2Proof.Tests

set_option Elab.async false

open Sys2Proof.Machine

/-! ## WellFormed: ill-formed terms are refused (R120, R125) -/

theorem test_wf_checkedLen0 : (Instr.checksummedRead 0x6A 0).wellFormed = false := by decide
theorem test_wf_checkedLen1 : (Instr.checksummedRead 0x6A 1).wellFormed = false := by decide
theorem test_wf_checkedLen33 : (Instr.checksummedRead 0x6A 33).wellFormed = false := by decide
theorem test_wf_checkedEnds :
    (Instr.checksummedRead 0x77 2).wellFormed = true ∧ (Instr.checksummedRead 0x77 32).wellFormed = true := by decide
theorem test_wf_plainLen0 : (Instr.plainRead 0x6A 0).wellFormed = false := by decide
theorem test_wf_plainLen33 : (Instr.plainRead 0x6A 33).wellFormed = false := by decide
theorem test_wf_plainEnds :
    (Instr.plainRead 0x20 1).wellFormed = true ∧ (Instr.plainRead 0x20 32).wellFormed = true := by decide

/-! ## Decoding: the word of each row written out (V-TR-01 to V-TR-07, V-REQ-01 to V-REQ-11) -/

theorem test_decode_init : decodeFrame 0x1001000000000000 = .ok .init := by rfl
theorem test_decode_readCounts : decodeFrame 0x1100000000000000 = .ok .readCounts := by rfl
theorem test_decode_readConc : decodeFrame 0x1200000000000000 = .ok .readConc := by rfl
theorem test_decode_readVref : decodeFrame 0x6900000000000000 = .ok .readVref := by rfl
theorem test_decode_readStatus : decodeFrame 0x6A00000000000000 = .ok .readStatus := by rfl
theorem test_decode_fanControl : decodeFrame 0x2B01000000000000 = .ok (.fanControl true) ∧
    decodeFrame 0x2B00000000000000 = .ok (.fanControl false) := ⟨rfl, rfl⟩
theorem test_decode_frameBytes :
    decodeFrameBytes [0x2B, 0x01, 0x00, 0x00, 0x00, 0x00, 0x00, 0x00] = .ok (.fanControl true) := by rfl
theorem test_decode_begin : decodeRequest 0b0000_00000000_00000000 = .ok .begin := by rfl
theorem test_decode_update : decodeRequest 0b0001_00000000_00000000 = .ok .update := by rfl
theorem test_decode_getReferenceVoltage : decodeRequest 0b0010_00000000_00000000 = .ok .getReferenceVoltage := by rfl
theorem test_decode_getStatus : decodeRequest 0b0011_00000000_00000000 = .ok .getStatus := by rfl
theorem test_decode_setFan : decodeRequest 0x40001 = .ok (.setFan true) ∧
    decodeRequest 0x400FE = .ok (.setFan false) := ⟨rfl, rfl⟩
theorem test_decode_setDebug : decodeRequest 0x50001 = .ok (.setDebug true) ∧
    decodeRequest 0x50000 = .ok (.setDebug false) := ⟨rfl, rfl⟩
theorem test_decode_checksummedRead : decodeRequest 0b0110_01101010_00000011 = .ok (.checksummedRead 0x6A 3) := by rfl
theorem test_decode_plainRead : decodeRequest 0x76A03 = .ok (.plainRead 0x6A 3) := by rfl
theorem test_decode_write : decodeRequest 0x82B01 = .ok (.write 0x2B 0x01) := by rfl
theorem test_decode_ignoredFields : decodeRequest 0x1FFFF = .ok .update := by rfl

/-! Words that are no instruction: reserved requests (V-RF-06, V-RF-07), frames that are none of the six (R66). -/

theorem test_decode_reserved : decodeRequest 0x90000 = .error .reservedRequest ∧
    decodeRequest 0xF1234 = .error .reservedRequest := ⟨rfl, rfl⟩
theorem test_decode_otherFrames : decodeFrame 0xA55A000000000000 = .error .unknownFrame ∧
    decodeFrame 0x2B02000000000000 = .error .unknownFrame ∧
    decodeFrame 0x1100000000000001 = .error .unknownFrame := ⟨rfl, rfl, rfl⟩

/-! ## The CRC unit (section 2 of 95_test_vectors.md) -/

theorem test_crcBit_traces :  -- V-BIT-01, V-BIT-04: the registers after each data bit
    [true, false, false, false, false, false, false, false].scanl crcBit 0xFFFF =
      [0xFFFF, 0x7FFF, 0xBBF7, 0xD9F3, 0xE8F1, 0xF070, 0x7838, 0x3C1C, 0x1E0E] ∧
    [false, false, true, false, false, true, true, true].scanl crcBit 0xC5EB =
      [0xC5EB, 0xE6FD, 0xF776, 0xFFB3, 0xFBD1, 0xF9E0, 0xF8F8, 0xF874, 0xF832] := by decide +kernel
theorem test_crcBit_corners :  -- V-BIT-05 to V-BIT-10
    crcBit 0 false = 0 ∧ crcBit 0 true = 0x8408 ∧ crcBit 1 true = 0 ∧ crcBit 1 false = 0x8408 ∧
    crcBit 0xFFFF false = 0xFBF7 ∧ crcBit 0xFFFF true = 0x7FFF := by decide +kernel
theorem test_crcByte :  -- V-BYTE-01 to V-BYTE-04
    crcByte 0 0x00 = 0 ∧ crcByte 0 0x01 = 0x1189 ∧ crcByte 0 0x80 = 0x8408 ∧ crcByte 0 0xFF = 0x0F78 := by
  decide +kernel
theorem test_crcFinal :  -- V-FIN-01, V-FIN-03, V-FIN-05
    crcFinal 0xFFFF = 0 ∧ crcFinal 0x00FF = 0x00FF ∧ crcFinal 0x1234 = 0xCBED := by decide +kernel
theorem test_crc16_zeros :  -- V-CRC-01 to V-CRC-04, V-CRC-08
    crc16 [] = 0x0000 ∧ crc16 [0] = 0x78F0 ∧ crc16 [0, 0] = 0x470F ∧ crc16 [0, 0, 0] = 0xCCC6 ∧
    crc16 (List.replicate 30 0) = 0xAB5D := by decide +kernel
theorem test_crc16_digits :  -- V-CRC-13
    crcOver [0x31, 0x32, 0x33, 0x34, 0x35, 0x36, 0x37, 0x38, 0x39] = 0x6F91 ∧
    crc16 [0x31, 0x32, 0x33, 0x34, 0x35, 0x36, 0x37, 0x38, 0x39] = 0x6E90 := by decide +kernel

/-! ## The validator (section 3) -/

theorem test_valid :  -- V-VAL-02, V-VAL-08, V-VAL-11, V-VAL-19
    valCheck [0x01, 0xF1, 0xE1] 3 = true ∧ valCheck [0x0C, 0xE4, 0xCD, 0x07] 4 = true ∧
    valCheck [0xFF, 0xFF, 0xFF, 0xFF] 4 = true ∧ valCheck [0x00, 0x00] 2 = true := by decide +kernel
theorem test_invalid :  -- V-VAL-05, V-VAL-06, V-VAL-07, V-VAL-12, V-VAL-14, V-VAL-20
    valCheck [0x01, 0xF1, 0xE0] 3 = false ∧ valCheck [0x00, 0xF1, 0xE1] 3 = false ∧
    valCheck [0x01, 0xE1, 0xF1] 3 = false ∧ valCheck [0x00, 0x00, 0x00, 0x00] 4 = false ∧
    valCheck [0xFF, 0xFF, 0xFF] 3 = false ∧ valCheck [0xFF, 0xFF] 2 = false := by decide +kernel

/-! ## The decoder (section 6) and the replies of program P3 -/

/-- The counts reply of program P3. -/
def countsReply : List Byte :=
  [0x00, 0x00, 0x00, 0x05, 0xFF, 0xFF, 0xFF, 0xFF, 0x00, 0x00, 0x00, 0x00, 0x00, 0x00, 0x00, 0x01] ++
  [0x00, 0x00, 0x01, 0x00, 0x00, 0x01, 0x00, 0x00, 0x01, 0x02, 0x03, 0x04, 0x43, 0x1C]

/-- The concentrations reply of program P3. -/
def concReply : List Byte :=
  [0x00, 0x00, 0x80, 0x3F, 0x00, 0x00, 0x00, 0x00, 0x00, 0x00, 0x20, 0x40, 0x00, 0x00, 0x80, 0xBF] ++
  [0x00, 0x00, 0x00, 0x3F, 0x00, 0x00, 0xC8, 0x42, 0x00, 0x00, 0x46, 0x41, 0x00, 0x00, 0xDB, 0x37]

theorem test_be32 : be32 [0x00, 0x00, 0x00, 0x05] 0 = 5 ∧ be32 [0x01, 0x02, 0x03, 0x04] 0 = 0x01020304 := by
  decide +kernel  -- V-DEC-01, V-DEC-03
theorem test_le32 : le32 [0x00, 0x00, 0x80, 0x3F] 0 = 0x3F800000 ∧ le32 [0x01, 0x02, 0x03, 0x04] 0 = 0x04030201 := by
  decide +kernel  -- V-DEC-05, V-DEC-06
theorem test_be16 : be16 [0x0C, 0xE4] 0 = 3300 := by decide +kernel  -- V-DEC-08
theorem test_decodeCounts :  -- V-DEC-13
    decodeCounts countsReply = #v[5, 4294967295, 0, 1, 256, 65536, 16909060] := by decide +kernel
theorem test_decodeConc :  -- V-DEC-14
    decodeConc concReply =
      #v[0x3F800000, 0x00000000, 0x40200000, 0xBF800000, 0x3F000000, 0x42C80000, 0x41460000] := by decide +kernel

/-! ## States -/

/-- What the peripheral puts on the bus: these bytes, then zeros. -/
def onBus (bytes : List Byte) : Reply := Vector.ofFn fun i => bytes.getD i.val 0

/-- A world in which everything completes and the peripheral gives these replies, then none. -/
def giving (replies : List (List Byte)) : World :=
  { completions := none, replies := replies.map onBus, thereafter := none }

/-- An idle, ready block in such a world. -/
def idle (replies : List (List Byte)) : State := { State.reset with ready := true, world := giving replies }

/-- A field of the next state; none where there is no next state. -/
def after {α : Type} (o : Host.Outcome State Fault Refusal) (f : State → α) : Option α :=
  match o with
  | .next t => some (f t)
  | .fault _ => none
  | .refused _ => none

/-- The reason of a refusal. -/
def reason (o : Host.Outcome State Fault Refusal) : Option Refusal :=
  match o with
  | .next _ => none
  | .fault _ => none
  | .refused r => some r

/-- A frame written out. -/
def frameBytes (opcode param : Byte) : List Byte := [opcode, param, 0, 0, 0, 0, 0, 0]

theorem exists_of_after {α : Type} {o : Host.Outcome State Fault Refusal} {f : State → α} {a : α}
    (h : after o f = some a) : ∃ t, o = .next t ∧ f t = a := by
  unfold after at h
  split at h <;> simp_all

/-! ## One command (programs P1 to P5, sections 5 and 7 of 95_test_vectors.md) -/

theorem test_begin :  -- P1 step 1
    after (exec .begin State.reset) (fun t => (t.trace, t.ready, t.done)) =
      some ([.linkInit, .wait 100, .busWrite 0x4B (frameBytes 0x10 0x01), .wait 1000], true, true) := by
  decide +kernel
theorem test_begin_hang :  -- R174: the settle wait never ends
    after (exec .begin { State.reset with world := { giving [] with completions := some 1 } })
      (fun t => (t.phase, t.ready, t.busy)) = some (.settle1, false, true) := by decide +kernel
theorem test_setFan :  -- P1 step 2
    after (exec (.setFan true) (idle [])) (fun t => (t.trace, t.resOk, t.phase)) =
      some ([.busWrite 0x4B (frameBytes 0x2B 0x01)], true, .done) := by decide +kernel
theorem test_setFan_notReady :  -- V-RF-09
    reason (exec (.setFan true) State.reset) = some .notReady := by decide +kernel
theorem test_setDebug :  -- V-RF-11
    after (exec (.setDebug true) State.reset) (fun t => (t.debug, t.trace, t.done)) = some (true, [], true) := by
  decide +kernel
theorem test_setDebug_off :
    after (exec (.setDebug false) { State.reset with debug := true }) (fun t => (t.debug, t.ready)) =
      some (false, false) := by decide +kernel
theorem test_getStatus :  -- P2
    after (exec .getStatus (idle [[0x05, 0xD5, 0xA6], [0x05, 0xD5, 0xA7]]))
      (fun t => (t.resValue, t.trace, t.phase)) =
      some (0x0005, [.busWrite 0x4B (frameBytes 0x6A 0), .busRead 0x4B 3 [0x05, 0xD5, 0xA6], .wait 1000,
        .busWrite 0x4B (frameBytes 0x6A 0), .busRead 0x4B 3 [0x05, 0xD5, 0xA7]], .done) := by decide +kernel
theorem test_getStatus_unsigned :  -- V-DEC-11
    after (exec .getStatus (idle [[0xFF, 0x00, 0xFF]])) State.resValue = some 0x00FF := by decide +kernel
theorem test_update :  -- P3
    after (exec .update (idle [countsReply, concReply]))
      (fun t => (t.particleCounts, t.massConcentrations, t.trace)) =
      some (#v[5, 4294967295, 0, 1, 256, 65536, 16909060],
        #v[0x3F800000, 0x00000000, 0x40200000, 0xBF800000, 0x3F000000, 0x42C80000, 0x41460000],
        [.busWrite 0x4B (frameBytes 0x11 0), .busRead 0x4B 30 countsReply,
          .busWrite 0x4B (frameBytes 0x12 0), .busRead 0x4B 32 concReply]) := by decide +kernel
theorem test_update_halfway :  -- P3, variant (b): the concentrations reply is never valid
    after (exec .update { idle [countsReply] with
        world := { giving [countsReply] with thereafter := some (onBus []) } })
      (fun t => (t.particleCounts, t.massConcentrations, t.busy)) =
      some (#v[5, 4294967295, 0, 1, 256, 65536, 16909060], Vector.replicate 7 0, true) := by decide +kernel
theorem test_getReferenceVoltage :  -- P4, first command
    after (exec .getReferenceVoltage (idle [[0x0C, 0xE4, 0xCD, 0x07]])) (fun t => (t.resValue, t.trace)) =
      some (0x0CE4, [.busWrite 0x4B (frameBytes 0x69 0), .busRead 0x4B 4 [0x0C, 0xE4, 0xCD, 0x07]]) := by
  decide +kernel
theorem test_getReferenceVoltage_stuckHigh :  -- P4, second command
    after (exec .getReferenceVoltage (idle [[0xFF, 0xFF, 0xFF, 0xFF]])) (fun t => (t.resValue, t.done)) =
      some (0xFFFF, true) := by decide +kernel
theorem test_write :  -- V-FR-10, V-TR-08
    after (exec (.write 0x2B 0x00) (idle [])) (fun t => (t.trace, t.resOk)) =
      some ([.busWrite 0x4B (frameBytes 0x2B 0x00)], true) ∧
    after (exec (.write 0xA5 0x5A) (idle [])) State.trace =
      some [.busWrite 0x4B [0xA5, 0x5A, 0, 0, 0, 0, 0, 0]] := by decide +kernel
theorem test_plainRead :  -- V-FR-08
    after (exec (.plainRead 0x6A 3) (idle [[0x01, 0xF1, 0xE0]]))
      (fun t => (t.trace, t.resBuf.toList.take 3, t.resLen, t.phase)) =
      some ([.busWrite 0x4B (frameBytes 0x6A 0), .busRead 0x4B 3 [0x01, 0xF1, 0xE0]],
        [0x01, 0xF1, 0xE0], 3, .done) := by decide +kernel
theorem test_plainRead_badLength :  -- V-RF-04, V-RF-05
    reason (exec (.plainRead 0x6A 0) (idle [])) = some .badLength ∧
    reason (exec (.plainRead 0x6A 255) (idle [])) = some .badLength := by decide +kernel
theorem test_checksummedRead :  -- V-FR-03
    after (exec (.checksummedRead 0x69 4)
        (idle [[0, 0, 0, 0], [0, 0, 0, 0], [0xFF, 0xFF, 0xFF, 0x00], [0x0C, 0xE4, 0xCD, 0x07]]))
      (fun t => (t.resBuf.toList.take 4, t.resLen, t.trace.length, t.trace.drop 6)) =
      some ([0x0C, 0xE4, 0xCD, 0x07], 4, 11,
        [.busWrite 0x4B (frameBytes 0x69 0), .busRead 0x4B 4 [0xFF, 0xFF, 0xFF, 0x00], .wait 1000,
          .busWrite 0x4B (frameBytes 0x69 0), .busRead 0x4B 4 [0x0C, 0xE4, 0xCD, 0x07]]) := by decide +kernel
theorem test_checksummedRead_lengths :  -- V-FR-07, V-RF-01, V-RF-03, V-RF-10
    after (exec (.checksummedRead 0x77 2) (idle [[0x00, 0x00]])) (fun t => (t.trace, t.resLen)) =
      some ([.busWrite 0x4B (frameBytes 0x77 0), .busRead 0x4B 2 [0x00, 0x00]], 2) ∧
    reason (exec (.checksummedRead 0x6A 1) (idle [])) = some .badLength ∧
    reason (exec (.checksummedRead 0x6A 33) (idle [])) = some .badLength ∧
    reason (exec (.checksummedRead 0x6A 0) State.reset) = some .notReady := by decide +kernel
theorem test_init :  -- V-TR-01
    after (exec .init (idle [])) State.trace = some [.busWrite 0x4B [0x10, 0x01, 0, 0, 0, 0, 0, 0]] := by
  decide +kernel
theorem test_init_notReady :  -- R193, R194
    reason (exec .init State.reset) = some .notReady := by decide +kernel
theorem test_fanControl :  -- V-TR-06, V-TR-07
    after (exec (.fanControl true) (idle [])) State.trace = some [.busWrite 0x4B (frameBytes 0x2B 0x01)] ∧
    after (exec (.fanControl false) (idle [])) State.trace = some [.busWrite 0x4B (frameBytes 0x2B 0x00)] := by
  decide +kernel
theorem test_readCounts :  -- V-TR-02, V-DEC-13
    after (exec .readCounts (idle [countsReply])) (fun t => (t.particleCounts, t.trace)) =
      some (#v[5, 4294967295, 0, 1, 256, 65536, 16909060],
        [.busWrite 0x4B (frameBytes 0x11 0), .busRead 0x4B 30 countsReply]) := by decide +kernel
theorem test_readCounts_notReady :  -- R193: the arrays hold zeros before BEGIN
    reason (exec .readCounts { State.reset with world := giving [countsReply] }) = some .notReady := by
  decide +kernel
theorem test_readConc :  -- V-TR-03, V-DEC-14
    after (exec .readConc (idle [concReply])) (fun t => (t.massConcentrations, t.trace)) =
      some (#v[0x3F800000, 0x00000000, 0x40200000, 0xBF800000, 0x3F000000, 0x42C80000, 0x41460000],
        [.busWrite 0x4B (frameBytes 0x12 0), .busRead 0x4B 32 concReply]) := by decide +kernel
theorem test_readVref :  -- V-TR-04, R153: no result register
    after (exec .readVref (idle [[0x0C, 0xE4, 0xCD, 0x07]])) (fun t => (t.trace, t.reply, t.resValue)) =
      some ([.busWrite 0x4B (frameBytes 0x69 0), .busRead 0x4B 4 [0x0C, 0xE4, 0xCD, 0x07]],
        [0x0C, 0xE4, 0xCD, 0x07], State.reset.resValue) := by decide +kernel
theorem test_readStatus :  -- V-TR-05, R154
    after (exec .readStatus (idle [[0x05, 0xD5, 0xA7]])) (fun t => (t.trace, t.reply)) =
      some ([.busWrite 0x4B (frameBytes 0x6A 0), .busRead 0x4B 3 [0x05, 0xD5, 0xA7]], [0x05, 0xD5, 0xA7]) := by
  decide +kernel

/-! ## One step -/

theorem test_step_runsRequest :  -- V-REQ-01, V-RF-12
    after (step (State.reset.withFetchWord 24 0x00000)) (fun t => (t.ready, t.pending)) = some (true, none) := by
  decide +kernel
theorem test_step_reserved :  -- V-RF-06
    reason (step { idle [] with pending := some (.req 0x90000) }) = some .reservedRequest := by decide +kernel
theorem test_step_reserved_notReady :  -- D6: both not ready and otherwise refusable
    reason (step { State.reset with pending := some (.req 0x90000) }) = some .notReady := by decide +kernel
theorem test_step_done :  -- R70: DONE goes to IDLE
    after (step { idle [] with phase := .done, trace := [.linkInit] }) (fun t => (t.phase, t.ready, t.trace)) =
      some (.idle, true, [.linkInit]) := by decide +kernel
theorem test_step_unknownFrame :
    reason (step { idle [] with pending := some (.frame 0xA55A000000000000) }) = some .unknownFrame := by
  decide +kernel
theorem test_step_reset :  -- R191
    after (step { idle [] with phase := .backoff, trace := [.linkInit], resetRequest := true })
      (fun t => (t.phase, t.ready, t.trace)) = some (.idle, false, []) := by decide +kernel

/-! ## Witnesses: a concrete input that meets the hypotheses of each statement that has some

`witness_X` is about `Obligations.X`. -/

theorem gives_of {n : Nat} {bad : List Reply} {good : Reply} {w w' : World} (h2 : 2 ≤ n) (h32 : n ≤ 32)
    (hd : w.draw (bad.length + 1) = some (bad ++ [good], w'))
    (hb : bad.all (fun r => !valCheck (firstBytes r n) n) = true)
    (hg : valCheck (firstBytes good n) n = true) : w.Gives n bad good w' := by
  refine ⟨hd, fun r hr hv => ?_, (valCheck_firstBytes good h2 h32).1 hg⟩
  have := List.all_eq_true.1 hb r hr
  rw [(valCheck_firstBytes r h2 h32).2 hv] at this
  simp at this

theorem neverValid_of {n : Nat} {r : Reply} {w : World} (h2 : 2 ≤ n) (h32 : n ≤ 32) (hr : w.replies = [])
    (ht : w.thereafter = some r) (h : valCheck (firstBytes r n) n = false) : w.NeverValid n := by
  refine ⟨by simp [hr], fun r' h' hv => ?_⟩
  rw [ht, Option.some.injEq] at h'
  subst h'
  rw [(valCheck_firstBytes r h2 h32).2 hv] at h
  simp at h

theorem valid_of {s : List Byte} (h : valCheck s s.length = true) (h2 : 2 ≤ s.length) : checksumValid s :=
  (valCheck_eq_true_iff h2 rfl).1 h

theorem allows_of_all {k : Nat} {w : World} (h : w.completions = none) : w.allows k := by
  intro n hn
  rw [h] at hn
  simp at hn

theorem allows_of_some {k n : Nat} {w : World} (h : w.completions = some n) (hk : k ≤ n) : w.allows k := by
  intro m hm
  rw [h, Option.some.injEq] at hm
  omega

theorem witness_OnlyTheSixFramesDecode : decodeFrame 0x2B00000000000000 = .ok (.fanControl false) := rfl

theorem witness_ValidReplyLeavesTheResidue :
    checksumValid [0x00, 0x00] ∧ checksumValid [0x01, 0xF1, 0xE1] ∧ checksumValid concReply :=
  ⟨valid_of (by decide +kernel) (by decide), valid_of (by decide +kernel) (by decide),
    valid_of (by decide +kernel) (by decide)⟩

/-- A bit of the payload's first byte, and one of the trailer's last. -/
theorem witness_SingleBitChangeIsDetected : checksumValid [0x01, 0xF1, 0xE1] ∧
    ([0x01, 0xF1, 0xE1] : List Byte)[0]? = some 0x01 ∧ ([0x01, 0xF1, 0xE1] : List Byte)[2]? = some 0xE1 :=
  ⟨witness_ValidReplyLeavesTheResidue.2.1, rfl, rfl⟩

theorem witness_OneValidTrailerPerPayload : ([0xF1, 0xE1] : List Byte).length = 2 := rfl

/-- The least length and the greatest. -/
theorem witness_MatchSeenByteByByte :
    (2 ≤ 2 ∧ ([0x00, 0x00] : List Byte)[2 - 2]? = some 0x00 ∧ ([0x00, 0x00] : List Byte)[2 - 1]? = some 0x00) ∧
    (2 ≤ 32 ∧ concReply[32 - 2]? = some 0xDB ∧ concReply[32 - 1]? = some 0x37) := by decide

/-- The first element and the last. -/
theorem witness_CountsAreBigEndian :
    (countsReply[4 * (0 : Fin 7).val]? = some 0x00 ∧ countsReply[4 * (0 : Fin 7).val + 1]? = some 0x00 ∧
      countsReply[4 * (0 : Fin 7).val + 2]? = some 0x00 ∧ countsReply[4 * (0 : Fin 7).val + 3]? = some 0x05) ∧
    (countsReply[4 * (6 : Fin 7).val]? = some 0x01 ∧ countsReply[4 * (6 : Fin 7).val + 1]? = some 0x02 ∧
      countsReply[4 * (6 : Fin 7).val + 2]? = some 0x03 ∧ countsReply[4 * (6 : Fin 7).val + 3]? = some 0x04) := by
  decide

theorem witness_ConcentrationsAreLittleEndianVerbatim :
    (concReply[4 * (0 : Fin 7).val]? = some 0x00 ∧ concReply[4 * (0 : Fin 7).val + 1]? = some 0x00 ∧
      concReply[4 * (0 : Fin 7).val + 2]? = some 0x80 ∧ concReply[4 * (0 : Fin 7).val + 3]? = some 0x3F) ∧
    (concReply[4 * (6 : Fin 7).val]? = some 0x00 ∧ concReply[4 * (6 : Fin 7).val + 1]? = some 0x00 ∧
      concReply[4 * (6 : Fin 7).val + 2]? = some 0x46 ∧ concReply[4 * (6 : Fin 7).val + 3]? = some 0x41) := by
  decide

/-- Replies that differ only in what each clause leaves out. -/
theorem witness_DecoderIgnoresSlackAndTrailer :
    (concReply.take 28 = (concReply.take 28 ++ [0xAA, 0x55, 0x7C, 0x60]).take 28 ∧
      concReply ≠ concReply.take 28 ++ [0xAA, 0x55, 0x7C, 0x60]) ∧
    (([0x0C, 0xE4, 0xCD, 0x07] : List Byte).take 2 = ([0x0C, 0xE4, 0x00, 0x00] : List Byte).take 2) ∧
    (([0x05, 0xD5, 0xA7] : List Byte).take 1 = ([0x05, 0x00, 0x00] : List Byte).take 1) := by decide

/-- Four completions are just enough; and each number of completions that is too few. -/
theorem witness_BeginRunsTheStartupSequence : State.reset.phase = .idle ∧ State.reset.world.allows 4 ∧
    World.allows 4 { giving [] with completions := some 4 } ∧
    ({ State.reset with world := { giving [] with completions := some 0 } } : State).world.completions = some 0 ∧
    ({ State.reset with world := { giving [] with completions := some 3 } } : State).world.completions = some 3 :=
  ⟨rfl, allows_of_all rfl, allows_of_some rfl (by decide), rfl, rfl⟩

theorem witness_WritingWireCommandsComplete :
    ((idle []).phase = .idle ∧ (idle []).ready = true ∧ (idle []).world.allows 1) ∧
    (State.reset.phase = .idle ∧ State.reset.ready = false) :=
  ⟨⟨rfl, rfl, allows_of_all rfl⟩, rfl, rfl⟩

/-- An idle, ready block with one completion, the least that is enough. -/
theorem witness_SetFanCompletes : (idle []).phase = .idle ∧ (idle []).ready = true ∧
    World.allows 1 { giving [] with completions := some 1 } :=
  ⟨rfl, rfl, allows_of_some rfl (by decide)⟩

theorem witness_WriteCompletes : ((idle []).phase = .idle ∧ (idle []).ready = true ∧ (idle []).world.allows 1) ∧
    (State.reset.phase = .idle ∧ State.reset.ready = false) :=
  ⟨⟨rfl, rfl, allows_of_all rfl⟩, rfl, rfl⟩

theorem witness_SetDebugCompletes : State.reset.phase = .idle := rfl

/-- Vector V-FR-02 (one failed pass, length 3), the least length, and the greatest. -/
theorem witness_ChecksummedReadCompletes :
    ((idle [[0x01, 0xF1, 0xE0], [0x01, 0xF1, 0xE1]]).world.Gives (3 : Byte).toNat [onBus [0x01, 0xF1, 0xE0]]
        (onBus [0x01, 0xF1, 0xE1]) (giving []) ∧
      (idle [[0x01, 0xF1, 0xE0], [0x01, 0xF1, 0xE1]]).world.allows 3) ∧
    ((idle [[0x00, 0x00]]).world.Gives (2 : Byte).toNat [] (onBus [0x00, 0x00]) (giving []) ∧ 2 ≤ (2 : Byte).toNat) ∧
    ((idle [concReply]).world.Gives (32 : Byte).toNat [] (onBus concReply) (giving []) ∧ (32 : Byte).toNat ≤ 32) ∧
    (∀ rs, (idle rs).phase = .idle ∧ (idle rs).ready = true ∧ (idle rs).world.allows 1) :=
  ⟨⟨gives_of (by decide) (by decide) (by decide +kernel) (by decide +kernel) (by decide +kernel), allows_of_all rfl⟩,
    ⟨gives_of (by decide) (by decide) (by decide +kernel) (by decide +kernel) (by decide +kernel), by decide⟩,
    ⟨gives_of (by decide) (by decide) (by decide +kernel) (by decide +kernel) (by decide +kernel), by decide⟩,
    fun _ => ⟨rfl, rfl, allows_of_all rfl⟩⟩

/-- Vector V-FR-09 (the least length), and the greatest. -/
theorem witness_PlainReadCompletes :
    ((idle [[0x7E]]).world.draw 1 = some ([onBus [0x7E]], giving []) ∧ 1 ≤ (1 : Byte).toNat ∧ (1 : Byte).toNat ≤ 32) ∧
    ((idle [concReply]).world.draw 1 = some ([onBus concReply], giving []) ∧ (32 : Byte).toNat ≤ 32) ∧
    (∀ rs, (idle rs).phase = .idle ∧ (idle rs).ready = true ∧ (idle rs).world.allows 1) :=
  ⟨⟨rfl, by decide, by decide⟩, ⟨rfl, by decide⟩, fun _ => ⟨rfl, rfl, allows_of_all rfl⟩⟩

theorem witness_GetReferenceVoltageCompletes : (idle [[0x0C, 0xE4, 0xCD, 0x07]]).phase = .idle ∧
    (idle [[0x0C, 0xE4, 0xCD, 0x07]]).ready = true ∧
    (idle [[0x0C, 0xE4, 0xCD, 0x07]]).world.Gives 4 [] (onBus [0x0C, 0xE4, 0xCD, 0x07]) (giving []) ∧
    (idle [[0x0C, 0xE4, 0xCD, 0x07]]).world.allows 1 :=
  ⟨rfl, rfl, gives_of (by decide) (by decide) (by decide +kernel) (by decide +kernel) (by decide +kernel),
    allows_of_all rfl⟩

/-- Program P2: one failed pass. -/
theorem witness_GetStatusCompletes : (idle [[0x05, 0xD5, 0xA6], [0x05, 0xD5, 0xA7]]).phase = .idle ∧
    (idle [[0x05, 0xD5, 0xA6], [0x05, 0xD5, 0xA7]]).ready = true ∧
    (idle [[0x05, 0xD5, 0xA6], [0x05, 0xD5, 0xA7]]).world.Gives 3 [onBus [0x05, 0xD5, 0xA6]]
      (onBus [0x05, 0xD5, 0xA7]) (giving []) ∧
    (idle [[0x05, 0xD5, 0xA6], [0x05, 0xD5, 0xA7]]).world.allows 3 :=
  ⟨rfl, rfl, gives_of (by decide) (by decide) (by decide +kernel) (by decide +kernel) (by decide +kernel),
    allows_of_all rfl⟩

/-- One reply for each clause. -/
theorem witness_ReadingWireCommandsComplete :
    (giving [countsReply]).Gives 30 [] (onBus countsReply) (giving []) ∧
    (giving [concReply]).Gives 32 [] (onBus concReply) (giving []) ∧
    (giving [[0x0C, 0xE4, 0xCD, 0x07]]).Gives 4 [] (onBus [0x0C, 0xE4, 0xCD, 0x07]) (giving []) ∧
    (giving [[0x05, 0xD5, 0xA7]]).Gives 3 [] (onBus [0x05, 0xD5, 0xA7]) (giving []) ∧
    (∀ rs, (idle rs).world = giving rs ∧ (idle rs).phase = .idle ∧ (idle rs).ready = true ∧
      (idle rs).world.allows 1) :=
  ⟨gives_of (by decide) (by decide) (by decide +kernel) (by decide +kernel) (by decide +kernel),
    gives_of (by decide) (by decide) (by decide +kernel) (by decide +kernel) (by decide +kernel),
    gives_of (by decide) (by decide) (by decide +kernel) (by decide +kernel) (by decide +kernel),
    gives_of (by decide) (by decide) (by decide +kernel) (by decide +kernel) (by decide +kernel),
    fun _ => ⟨rfl, rfl, rfl, allows_of_all rfl⟩⟩

/-- Program P3, and a failed pass before its second reply. -/
theorem witness_UpdateCompletes :
    (idle [countsReply, [0x00], concReply]).phase = .idle ∧ (idle [countsReply, [0x00], concReply]).ready = true ∧
    (idle [countsReply, [0x00], concReply]).world.Gives 30 [] (onBus countsReply) (giving [[0x00], concReply]) ∧
    (giving [[0x00], concReply]).Gives 32 [onBus [0x00]] (onBus concReply) (giving []) ∧
    (idle [countsReply, [0x00], concReply]).world.allows 4 :=
  ⟨rfl, rfl, gives_of (by decide) (by decide) (by decide +kernel) (by decide +kernel) (by decide +kernel),
    gives_of (by decide) (by decide) (by decide +kernel) (by decide +kernel) (by decide +kernel), allows_of_all rfl⟩

/-- The world of program P3, variant (b): counts once, then all zeros for ever. -/
def countsThenZeros : World := { giving [countsReply] with thereafter := some (onBus []) }

theorem witness_UpdateArraysAreNotWrittenTogether :
    ({ idle [] with world := countsThenZeros } : State).phase = .idle ∧
    ({ idle [] with world := countsThenZeros } : State).ready = true ∧
    countsThenZeros.Gives 30 [] (onBus countsReply) { giving [] with thereafter := some (onBus []) } ∧
    countsThenZeros.allows 1 ∧
    World.NeverValid 32 { giving [] with thereafter := some (onBus []) } :=
  ⟨rfl, rfl, gives_of (by decide) (by decide) (by decide +kernel) (by decide +kernel) (by decide +kernel),
    allows_of_all rfl, neverValid_of (r := onBus []) (by decide) (by decide) rfl rfl (by decide +kernel)⟩

theorem witness_LeastDurations :
    (∃ t, exec .begin State.reset = .next t ∧ t.done = true) ∧
    (∃ t, exec .update (idle [countsReply, [0x00], concReply]) = .next t ∧ t.done = true) :=
  ⟨exists_of_after (by decide +kernel), exists_of_after (by decide +kernel)⟩

theorem witness_NotReadyIsRefused : (Instr.checksummedRead 0x6A 0).isHost = true ∧
    Instr.checksummedRead 0x6A 0 ≠ .begin ∧ (∀ e, Instr.checksummedRead 0x6A 0 ≠ .setDebug e) ∧
    State.reset.phase = .idle ∧ State.reset.ready = false := ⟨rfl, by decide, by simp, rfl, rfl⟩

/-- A host command, a wire command, a reserved request word and a frame that is none of the six. -/
theorem witness_NothingElseIsAcceptedBeforeBegin : State.reset.resetRequest = false ∧ State.reset.phase = .idle ∧
    State.reset.ready = false ∧
    ∀ c ∈ [Code.req 0x10000, .frame 0x1100000000000000, .req 0x90000, .frame 0xA55A000000000000],
      ({ State.reset with pending := some c } : State).pending = some c ∧
      decode c ≠ .ok .begin ∧ ∀ e, decode c ≠ .ok (.setDebug e) := by
  refine ⟨rfl, rfl, rfl, fun c hc => ⟨rfl, ?_⟩⟩
  simp only [List.mem_cons, List.not_mem_nil, or_false] at hc
  rcases hc with rfl | rfl | rfl | rfl <;> exact ⟨by simp [decode, decodeRequest, decodeFrame, reqOp, framePad,
    frameOpcode, frameParam, Config.opInit, Config.opReadCounts, Config.opReadConc, Config.opReadVref,
    Config.opReadStatus, Config.opFanControl], by simp [decode, decodeRequest, decodeFrame, reqOp, framePad,
    frameOpcode, frameParam, Config.opInit, Config.opReadCounts, Config.opReadConc, Config.opReadVref,
    Config.opReadStatus, Config.opFanControl]⟩

/-- Both ends of each domain, and the first and the last reserved `op`. -/
theorem witness_OutOfDomainRequestsAreRefused : (idle []).phase = .idle ∧ (idle []).ready = true ∧
    ((1 : Byte).toNat < 2 ∧ 32 < (33 : Byte).toNat) ∧ ((0 : Byte).toNat < 1 ∧ 32 < (255 : Byte).toNat) ∧
    (idle []).resetRequest = false ∧ 9 ≤ (0x9#4).toNat ∧ 9 ≤ (0xF#4).toNat ∧
    ({ idle [] with pending := some (.req 0x90000) } : State).pending = some (.req (0x9#4 ++ 0#8 ++ 0#8)) ∧
    ({ idle [] with pending := some (.req 0xF1234) } : State).pending = some (.req (0xF#4 ++ 0x12#8 ++ 0x34#8)) := by
  decide

theorem witness_EveryInstructionRunsUnlessTheSpecRefuses :
    ¬ ((idle []).phase = .idle ∧ Instr.update.needsReady = true ∧ (idle []).ready = false) ∧
    ¬ ((idle []).phase = .idle ∧ Instr.update.wellFormed = false) := by decide

theorem witness_BusyRequestChangesNothing : ({ idle [] with phase := .done } : State).phase ≠ .idle := by decide

theorem witness_RequestPortIsNotSeenWhileBusy : ({ idle [] with phase := .backoff } : State).phase ≠ .idle ∧
    ∃ t, step { idle [] with phase := .backoff } = .next t :=
  ⟨by decide, _, rfl⟩

theorem witness_StepRunsTheDecodedInstruction : State.reset.resetRequest = false ∧ State.reset.phase = .idle ∧
    ({ State.reset with pending := some (.req 0x00000) } : State).pending = some (.req 0x00000) ∧
    decode (.req 0x00000) = .ok .begin := ⟨rfl, rfl, rfl, rfl⟩

/-- One word of each format. -/
theorem witness_PlacedWordRunsNext : State.reset.resetRequest = false ∧ State.reset.phase = .idle ∧
    decodeTableWord 24 0x82B01 = some (.write 0x2B 0x01) ∧ decodeTableWord 64 0x1001000000000000 = some .init :=
  ⟨rfl, rfl, rfl, rfl⟩

theorem witness_ResetAbandonsTheCommand :
    ({ idle [] with phase := .backoff, resetRequest := true } : State).resetRequest = true := rfl

theorem witness_IdleWaitsAndDoneReturnsToIdle : State.reset.resetRequest = false ∧ State.reset.phase = .idle ∧
    State.reset.pending = none ∧ ({ idle [] with phase := .done } : State).phase = .done := ⟨rfl, rfl, rfl, rfl⟩

/-- A block about to write the frame of `CHECKSUMMED_READ 0x6A, 3`. -/
def writing (w : World) : State :=
  { State.reset with
    ready := true, phase := .write, curOp := .checksummedRead, curOpcode := 0x6A, curLen := 3, world := w }

/-- The same block with a reply in `buf`, about to be checked. -/
def checking (bytes : List Byte) : State :=
  { writing (giving []) with
    phase := .check, buf := onBus bytes, bufLen := 3
    trace := [.busWrite 0x4B (frameBytes 0x6A 0), .busRead 0x4B 3 bytes] }

theorem witness_MismatchWaitsAndRetries :
    ((checking [0x01, 0xF1, 0xE0]).resetRequest = false ∧ (checking [0x01, 0xF1, 0xE0]).phase = .check ∧
      (checking [0x01, 0xF1, 0xE0]).matchFlag = false) ∧
    (({ writing (giving []) with phase := .backoff } : State).phase = .backoff ∧ (giving []).allows 1) :=
  ⟨by decide +kernel, rfl, allows_of_all rfl⟩

/-- The invariant holds of a block in the middle of a command. -/
theorem writing_inv (w : World) : (writing w).Inv := by
  constructor <;> simp [writing, State.reset, ReadsFollowWrites, Phase.isStartup, Phase.isFramer, State.LatchesOk]

/-- A block that is not held, and one that is. -/
theorem witness_PhasesAdvanceByTheTable :
    ((writing (giving [])).Inv ∧ (writing (giving [])).resetRequest = false ∧ (writing (giving [])).busy = true ∧
      ¬ (writing (giving [])).Held ∧ ∃ t, step (writing (giving [])) = .next t) ∧
    ((writing { giving [] with completions := some 0 }).Inv ∧
      (writing { giving [] with completions := some 0 }).Held) :=
  ⟨⟨writing_inv _, rfl, rfl, by unfold State.Held; decide, _, rfl⟩, writing_inv _, by unfold State.Held; decide⟩

/-- A block in the startup sequence. -/
theorem witness_OnlyStartupEventsBeforeReady :
    ({ State.reset with phase := .link } : State).Inv ∧ ({ State.reset with phase := .link } : State).ready = false ∧
    ({ State.reset with phase := .link } : State).resetRequest = false ∧
    ∃ t, step { State.reset with phase := .link } = .next t := by
  refine ⟨?_, rfl, rfl, _, rfl⟩
  constructor <;> simp [State.reset, ReadsFollowWrites, Phase.isStartup, Phase.isFramer]

/-- Both kinds of hang: a write that never completes, a read that never does. -/
theorem witness_HangStaysInItsPhase :
    ((writing { giving [] with completions := some 0 }).resetRequest = false ∧
      (writing { giving [] with completions := some 0 }).Held) ∧
    ({ writing (giving []) with phase := .read } : State).Held := by
  unfold State.Held
  decide

/-- Vector V-FR-06: all zeros for ever. -/
def zerosForEver : World := { completions := none, replies := [], thereafter := some (onBus []) }

theorem witness_ReadNeverReturnsWithoutAValidReply : (writing zerosForEver).Inv ∧
    (writing zerosForEver).resetRequest = false ∧ (writing zerosForEver).phase ∈ [Phase.write, .read, .backoff] ∧
    (writing zerosForEver).curOp.replyKind = .checked ∧
    (writing zerosForEver).world.NeverValid (writing zerosForEver).curLen.toNat :=
  ⟨writing_inv _, rfl, by decide, rfl,
    neverValid_of (r := onBus []) (by decide) (by decide) rfl rfl (by decide +kernel)⟩

theorem witness_RetryIsUnbounded : (writing zerosForEver).Inv ∧ (writing zerosForEver).resetRequest = false ∧
    (writing zerosForEver).phase = .write ∧ (writing zerosForEver).curOp.replyKind = .checked ∧
    (writing zerosForEver).world = { completions := none, replies := [], thereafter := some (onBus []) } ∧
    ¬ ReplyValid (writing zerosForEver).curLen.toNat (onBus []) :=
  ⟨writing_inv _, rfl, rfl, rfl, rfl, fun h =>
    absurd ((valCheck_firstBytes (onBus []) (n := 3) (by decide) (by decide)).2 h) (by decide +kernel)⟩

theorem witness_StepKeepsInv : (writing (giving [])).Inv ∧ ∃ t, step (writing (giving [])) = .next t :=
  ⟨writing_inv _, _, rfl⟩

theorem witness_StepKeepsReadingsGenuine : (writing (giving [])).Inv ∧ (writing (giving [])).Genuine ∧
    ∃ t, step (writing (giving [])) = .next t :=
  ⟨writing_inv _, ⟨.inl rfl, .inl rfl⟩, _, rfl⟩

theorem witness_OnlyUpdateWritesTheReadings : Instr.getStatus.writesReadings = false ∧
    ∃ t, exec .getStatus (idle [[0x05, 0xD5, 0xA7]]) = .next t :=
  ⟨rfl, _, rfl⟩

theorem witness_TraceOnlyGrows : (writing (giving [])).resetRequest = false ∧
    ∃ t, step (writing (giving [])) = .next t := ⟨rfl, _, rfl⟩

theorem witness_ReadyAndDebugHaveOneWriter : (Instr.init ≠ .begin ∧ ∀ e, Instr.init ≠ .setDebug e) ∧
    ∃ t, exec .init (idle []) = .next t := ⟨by simp, _, rfl⟩

theorem witness_DebugAffectsNothing : (∀ e, Instr.getStatus ≠ .setDebug e) ∧
    ∃ t, exec .getStatus (idle [[0x05, 0xD5, 0xA7]]) = .next t := ⟨by simp, _, rfl⟩

theorem witness_ScratchIsNotRetained : (idle [[0x05, 0xD5, 0xA7]]).phase = .idle ∧
    ∃ t, exec .getStatus (idle [[0x05, 0xD5, 0xA7]]) = .next t := ⟨rfl, _, rfl⟩

theorem witness_SetFanIsAWrite : (idle []).phase = .idle ∧ ∃ t, exec (.write 0x2B 0x01) (idle []) = .next t :=
  ⟨rfl, _, rfl⟩

theorem witness_GetsAreChecksummedReads :
    (∃ t, exec (.checksummedRead 0x69 4) (idle [[0x0C, 0xE4, 0xCD, 0x07]]) = .next t ∧ t.done = true) ∧
    (∃ t, exec (.checksummedRead 0x6A 3) (idle [[0x05, 0xD5, 0xA7]]) = .next t ∧ t.done = true) :=
  ⟨exists_of_after (by decide +kernel), exists_of_after (by decide +kernel)⟩

theorem witness_UpdateIsTwoChecksummedReads :
    ∃ t₁ s₁ t₂, exec (.checksummedRead 0x11 30) (idle [countsReply, concReply]) = .next t₁ ∧ t₁.done = true ∧
      step t₁ = .next s₁ ∧ exec (.checksummedRead 0x12 32) s₁ = .next t₂ ∧ t₂.done = true := by
  obtain ⟨t₁, h, he⟩ := exists_of_after (o := exec (.checksummedRead 0x11 30) (idle [countsReply, concReply]))
    (f := fun t => (t.done, after (step t) fun s => after (exec (.checksummedRead 0x12 32) s) State.done))
    (a := (true, some (some true))) (by decide +kernel)
  simp only [Prod.mk.injEq] at he
  obtain ⟨s₁, h₁, he₁⟩ := exists_of_after he.2
  obtain ⟨t₂, h₂, hd⟩ := exists_of_after he₁
  exact ⟨t₁, s₁, t₂, h, he.1, h₁, h₂, hd⟩

/-- A write that completes on the last completion there is; reads of the least length and of the greatest. -/
theorem witness_TransportOperations :
    ((writing { giving [] with completions := some 1 }).resetRequest = false ∧
      (writing { giving [] with completions := some 1 }).phase = .write ∧
      (writing { giving [] with completions := some 1 }).world.allows 1) ∧
    (({ writing (giving [[0x7E]]) with phase := .read, curOp := .plainRead, curLen := 1 } : State).phase = .read ∧
      (giving [[0x7E]]).draw 1 = some ([onBus [0x7E]], giving []) ∧ 1 ≤ (1 : BitVec 6).toNat) ∧
    (({ writing (giving [concReply]) with phase := .read, curLen := 32 } : State).phase = .read ∧
      (giving [concReply]).draw 1 = some ([onBus concReply], giving []) ∧ (32 : BitVec 6).toNat ≤ 32) :=
  ⟨⟨rfl, rfl, allows_of_some rfl (by decide)⟩, ⟨rfl, rfl, by decide⟩, rfl, rfl, by decide⟩

/-- A block about to decode a reply just read. -/
def decoding (op : Op) (opcode : Byte) (n : BitVec 6) (bytes : List Byte) : State :=
  { State.reset with
    ready := true, phase := .decode, curOp := op, curOpcode := opcode, curLen := n, bufLen := n, buf := onBus bytes
    trace := [.busWrite 0x4B (frameBytes opcode 0), .busRead 0x4B n.toNat (firstBytes (onBus bytes) n.toNat)] }

theorem decoding_inv {op : Op} {opcode : Byte} {n : BitVec 6} {bytes : List Byte} (hk : op.replyKind = .checked)
    (ho : op ≠ .checksummedRead) (hl : (decoding op opcode n bytes).LatchesOk) (h1 : 1 ≤ n.toNat)
    (h32 : n.toNat ≤ 32) (hv : valCheck (firstBytes (onBus bytes) n.toNat) n.toNat = true) :
    (decoding op opcode n bytes).Inv where
  events := by
    simp [decoding, Event.wellFormed, frameBytes, firstBytes_length, Config.busAddr, h1, h32]
  paired := by
    intro pre addr m r post h
    simp only [decoding] at h
    rcases pre with _ | ⟨a, _ | ⟨b, pre⟩⟩ <;> simp at h
    exact ⟨_, _, by rw [← h.1]; rfl⟩
  readNext := by simp [decoding]
  startup := by simp [decoding, Phase.isStartup]
  framerReady := fun _ => rfl
  latches := fun _ => hl
  reads := fun _ _ => by simp [decoding, hk]
  inBuf := fun _ => ⟨hk, rfl, rfl⟩
  backing := by simp [decoding]
  decoded := fun _ => ⟨hv, ho⟩

/-- One state for each clause, two for the last: the replies of program P3, and vectors V-VAL-08 and V-VAL-03. -/
theorem witness_DecodesWriteTheirDestination :
    ((decoding .update 0x11 30 countsReply).Inv ∧ (decoding .update 0x11 30 countsReply).resetRequest = false) ∧
    (decoding .readConc 0x12 32 concReply).Inv ∧
    (decoding .getReferenceVoltage 0x69 4 [0x0C, 0xE4, 0xCD, 0x07]).Inv ∧
    (decoding .getStatus 0x6A 3 [0x05, 0xD5, 0xA7]).Inv ∧
    (decoding .readVref 0x69 4 [0x0C, 0xE4, 0xCD, 0x07]).Inv ∧
    (decoding .readStatus 0x6A 3 [0x05, 0xD5, 0xA7]).Inv ∧
    (∀ op opcode n bytes, (decoding op opcode n bytes).resetRequest = false ∧
      (decoding op opcode n bytes).phase = .decode ∧ (decoding op opcode n bytes).curOp = op ∧
      (decoding op opcode n bytes).curOpcode = opcode) :=
  ⟨⟨decoding_inv rfl (by decide) (by simp [State.LatchesOk, decoding, State.reset]) (by decide) (by decide)
      (by decide +kernel), rfl⟩,
    decoding_inv rfl (by decide) (by simp [State.LatchesOk, decoding, State.reset]) (by decide) (by decide)
      (by decide +kernel),
    decoding_inv rfl (by decide) (by simp [State.LatchesOk, decoding, State.reset]) (by decide) (by decide)
      (by decide +kernel),
    decoding_inv rfl (by decide) (by simp [State.LatchesOk, decoding, State.reset]) (by decide) (by decide)
      (by decide +kernel),
    decoding_inv rfl (by decide) (by simp [State.LatchesOk, decoding, State.reset]) (by decide) (by decide)
      (by decide +kernel),
    decoding_inv rfl (by decide) (by simp [State.LatchesOk, decoding, State.reset]) (by decide) (by decide)
      (by decide +kernel),
    fun _ _ _ _ => ⟨rfl, rfl, rfl, rfl⟩⟩

end Sys2Proof.Tests
end

namespace Sys2Proof.Machine

/-! ## Accepted commands -/

/-- Load the latches of a command and enter its first phase. `SET_DEBUG` is complete at once. -/
def load (i : Instr) (s : State) : State :=
  match i with
  | .init => startWrite .init 0x10 0x01 s
  | .readCounts => startRead .readCounts 0x11 30 s
  | .readConc => startRead .readConc 0x12 32 s
  | .readVref => startRead .readVref 0x69 4 s
  | .readStatus => startRead .readStatus 0x6A 3 s
  | .fanControl p => startWrite .fanControl 0x2B (boolByte p) s
  | .begin => startBegin s
  | .update => startRead .update 0x11 30 s
  | .getReferenceVoltage => startRead .getReferenceVoltage 0x69 4 s
  | .getStatus => startRead .getStatus 0x6A 3 s
  | .setFan on => startWrite .setFan 0x2B (boolByte on) s
  | .setDebug enabled => ((s.latchOp .setDebug).setDebug enabled).complete
  | .checksummedRead opcode len => startRead .checksummedRead opcode (latchedLen len) s
  | .plainRead opcode len => startRead .plainRead opcode (latchedLen len) s
  | .write opcode param => startWrite .write opcode param s

/-- The state just after acceptance (30_encoding.md R70), before the first transition: the results of a host command
are open (70_reset_and_hazards.md R200). -/
def startOf (i : Instr) (s : State) : State := load i (if i.isHost then s.freeResults else s)

/-- The block accepts the instruction: it is idle, and nothing of 60_exceptions.md R176, R177 refuses it. -/
def Accepts (i : Instr) (s : State) : Prop :=
  s.phase = .idle ∧ (i.needsReady = true → s.ready = true) ∧ i.wellFormed = true

theorem runCommand_of_done {s : State} (h : s.phase = .done) : runCommand s = s :=
  advanceN_of_fixed (advance_of_done h) _

/-- A wire command is one acceptance and one run (log 5). -/
theorem exec_of_wire {i : Instr} (h : i.isHost = false) (s : State) :
    exec i s = acceptWire (fun s => runCommand (load i s)) s := by
  cases i with
  | init => exact exec_init s
  | readCounts => exact exec_readCounts s
  | readConc => exact exec_readConc s
  | readVref => exact exec_readVref s
  | readStatus => exact exec_readStatus s
  | fanControl p => exact exec_fanControl s p
  | _ => simp [Instr.isHost] at h

/-- A host command is one acceptance and one run (R70). -/
theorem exec_of_host {i : Instr} (h : i.isHost = true) (s : State) :
    exec i s = acceptHost i.needsReady i.wellFormed (fun s => runCommand (load i s)) s := by
  cases i with
  | begin => exact exec_begin s
  | update => exact exec_update s
  | getReferenceVoltage => exact exec_getReferenceVoltage s
  | getStatus => exact exec_getStatus s
  | setFan on => exact exec_setFan s on
  | setDebug enabled =>
    rw [exec_setDebug]
    congr 1
    funext s
    exact (runCommand_of_done rfl).symm
  | checksummedRead opcode len => exact exec_checksummedRead s opcode len
  | plainRead opcode len => exact exec_plainRead s opcode len
  | write opcode param => exact exec_write s opcode param
  | _ => simp [Instr.isHost] at h

theorem needsReady_of_wire {i : Instr} (h : i.isHost = false) : i.needsReady = true ∧ i.wellFormed = true := by
  cases i <;> simp_all [Instr.isHost, Instr.needsReady, Instr.wellFormed]

theorem exec_of_not_idle (i : Instr) {s : State} (h : s.phase ≠ .idle) : exec i s = .next s := by
  cases hi : i.isHost with
  | false => rw [exec_of_wire hi, acceptWire_notIdle h]
  | true => rw [exec_of_host hi, acceptHost_notIdle h]

theorem exec_of_accepts {i : Instr} {s : State} (h : Accepts i s) :
    exec i s = .next (runCommand (startOf i s)) := by
  obtain ⟨hp, hr, hl⟩ := h
  cases hi : i.isHost with
  | false => rw [exec_of_wire hi, acceptWire_idle hp (hr (needsReady_of_wire hi).1), startOf, hi]; rfl
  | true => rw [exec_of_host hi, acceptHost_idle hp hr hl, startOf, hi]; rfl

/-- Everything an instruction can do with a next state: nothing in a block that is not idle, else it is accepted and
runs. -/
theorem exec_next {i : Instr} {s t : State} (h : exec i s = .next t) :
    s.phase ≠ .idle ∧ t = s ∨ Accepts i s ∧ t = runCommand (startOf i s) := by
  cases hi : i.isHost with
  | false =>
    rw [exec_of_wire hi] at h
    obtain hn | ⟨hp, hr, rfl⟩ := acceptWire_next h
    · exact .inl hn
    · exact .inr ⟨⟨hp, fun _ => hr, (needsReady_of_wire hi).2⟩, by rw [startOf, hi]; rfl⟩
  | true =>
    rw [exec_of_host hi] at h
    obtain hn | ⟨hp, hr, hl, rfl⟩ := acceptHost_next h
    · exact .inl hn
    · exact .inr ⟨⟨hp, hr, hl⟩, by rw [startOf, hi]; rfl⟩

end Sys2Proof.Machine

namespace Sys2Proof.Machine

/-! ## One transition, as its primitive and what follows -/

section
variable {s : State}

theorem advance_of_link (h : s.phase = .link) :
    advance s = s.onComplete fun u => (u.record .linkInit).goTo .settle1 := by
  simp only [advance, h]
  rfl

theorem advance_of_settle1 (h : s.phase = .settle1) :
    advance s = s.onComplete fun u => (u.record (.wait 100)).goTo .prime := by
  simp only [advance, h]
  rfl

theorem advance_of_prime (h : s.phase = .prime) :
    advance s = (s.setFrame (commandFrame 0x10 0x01)).onComplete
      fun u => (u.record (.busWrite Config.busAddr u.frame.toList)).goTo .settle2 := by
  simp only [advance, h]
  rfl

theorem advance_of_settle2 (h : s.phase = .settle2) :
    advance s = s.onComplete fun u => ((u.record (.wait 1000)).setReady true).complete := by
  simp only [advance, h]
  rfl

end

theorem stepWrite_eq (s : State) :
    stepWrite s = (s.setFrame (commandFrame s.curOpcode s.curParam)).onComplete
      fun u => afterWrite (u.record (.busWrite Config.busAddr u.frame.toList)) := rfl

theorem stepBackoff_eq (s : State) :
    stepBackoff s = s.onComplete fun u => (u.record (.wait 1000)).goTo .write := rfl

/-! ## The two outcomes of a transition -/

theorem allows_of_not_held {s : State} (hp : s.phase ∈ [.link, .settle1, .prime, .settle2, .write, .backoff])
    (h : ¬ s.Held) : s.world.allows (0 + 1) := by
  intro n hn
  have : n ≠ 0 := fun h0 => h (.inl ⟨hp, by rw [hn, h0]⟩)
  omega

theorem answer_of_not_held {s : State} (hp : s.phase = .read) (h : ¬ s.Held) :
    ∃ r w, s.world.answer = some (r, w) := by
  cases ha : s.world.answer with
  | none => exact absurd (.inr ⟨hp, by rw [World.draw_one, ha]; rfl⟩) h
  | some p => exact ⟨p.1, p.2, rfl⟩

/-- A held transition changes nothing, but that the frame it would send is built (R174, 40_transport.md R81). -/
theorem advance_of_held {s : State} (h : s.Held) : advance s = s ∨ ∃ f, advance s = s.setFrame f := by
  obtain ⟨hp, hc⟩ | ⟨hp, ha⟩ := h
  · have hang {u : State} {k} (hu : u.world = s.world) : u.onComplete k = u :=
      State.onComplete_of_hang (by rw [hu, hc])
    simp only [List.mem_cons, List.not_mem_nil, or_false] at hp
    rcases hp with hp | hp | hp | hp | hp | hp
    · exact .inl (by rw [advance_of_link hp, hang rfl])
    · exact .inl (by rw [advance_of_settle1 hp, hang rfl])
    · exact .inr ⟨_, by rw [advance_of_prime hp, hang (by rfl)]⟩
    · exact .inl (by rw [advance_of_settle2 hp, hang rfl])
    · exact .inr ⟨_, by rw [advance_of_write hp, stepWrite_eq, hang (by rfl)]⟩
    · exact .inl (by rw [advance_of_backoff hp, stepBackoff_eq, hang rfl])
  · rw [World.draw_one, Option.map_eq_none_iff] at ha
    exact .inl (by rw [advance_of_read hp]; exact State.readReply_of_hang ha)

/-- The state after a primitive that is no read: one completion is used, its event recorded. -/
def State.afterPrimitive (e : Event) (s : State) : State :=
  (s.setWorld (s.world.afterCompletions 1)).record e

/-- The state after a reply read: the world is left at `w`, the reply is in `buf`, its event recorded. -/
def State.afterReply (r : Reply) (w : World) (s : State) : State :=
  ((s.setWorld w).setReply r s.curLen).record (received s.curLen.toNat r)

section
variable {s : State} (h : ¬ s.Held)
include h

theorem advance_link (hp : s.phase = .link) : advance s = (s.afterPrimitive .linkInit).goTo .settle1 := by
  rw [advance_of_link hp, State.onComplete_of_allows (allows_of_not_held (by simp [hp]) h)]
  rfl

theorem advance_settle1 (hp : s.phase = .settle1) : advance s = (s.afterPrimitive (.wait 100)).goTo .prime := by
  rw [advance_of_settle1 hp, State.onComplete_of_allows (allows_of_not_held (by simp [hp]) h)]
  rfl

theorem advance_prime (hp : s.phase = .prime) :
    advance s = ((s.setFrame (commandFrame 0x10 0x01)).afterPrimitive (sent 0x10 0x01)).goTo .settle2 := by
  have ha := allows_of_not_held (by simp [hp]) h
  rw [advance_of_prime hp, State.onComplete_of_allows (by exact ha)]
  rfl

theorem advance_settle2 (hp : s.phase = .settle2) :
    advance s = ((s.afterPrimitive (.wait 1000)).setReady true).complete := by
  rw [advance_of_settle2 hp, State.onComplete_of_allows (allows_of_not_held (by simp [hp]) h)]
  rfl

theorem advance_write (hp : s.phase = .write) :
    advance s = afterWrite ((s.setFrame (commandFrame s.curOpcode s.curParam)).afterPrimitive
      (sent s.curOpcode s.curParam)) := by
  have ha := allows_of_not_held (by simp [hp]) h
  rw [advance_of_write hp, stepWrite_eq, State.onComplete_of_allows (by exact ha)]
  rfl

theorem advance_read (hp : s.phase = .read) : ∃ r w, advance s = afterRead (s.afterReply r w) := by
  obtain ⟨r, w, ha⟩ := answer_of_not_held hp h
  exact ⟨r, w, by rw [advance_of_read hp]; exact State.readReply_of_answer ha⟩

theorem advance_backoff (hp : s.phase = .backoff) : advance s = (s.afterPrimitive (.wait 1000)).goTo .write := by
  rw [advance_of_backoff hp, stepBackoff_eq,
    State.onComplete_of_allows (allows_of_not_held (by simp [hp]) h)]
  rfl

end

end Sys2Proof.Machine

namespace Sys2Proof.Machine

/-! ## What follows a primitive: the next phase -/

theorem complete_eq (s : State) : s.complete = s.goTo (if s.curOp.isWire then .idle else .done) := rfl

theorem afterWrite_of_none {s : State} (h : s.curOp.replyKind = .none) :
    afterWrite s = (if s.curOp.reportsSuccess then s.setResOk true else s).complete := by
  unfold afterWrite
  rw [h]

theorem afterRead_of_plain {s : State} (h : s.curOp.replyKind = .plain) : afterRead s = s.setResBuf.complete := by
  unfold afterRead
  rw [h]

theorem afterRead_of_not_plain {s : State} (h : s.curOp.replyKind ≠ .plain) : afterRead s = s.goTo .check := by
  unfold afterRead
  split <;> simp_all

/-- Only `PLAIN_READ` reads unchecked (42_checked_read.md R126). -/
theorem replyKind_eq_plain_iff {op : Op} : op.replyKind = .plain ↔ op = .plainRead := by
  cases op <;> simp [Op.replyKind]

theorem afterWrite_phase (s : State) : (afterWrite s).phase =
    if s.curOp.replyKind = .none then (if s.curOp.isWire then .idle else .done) else .read := by
  by_cases h : s.curOp.replyKind = .none
  · rw [afterWrite_of_none h, if_pos h, complete_eq]
    split <;> rfl
  · rw [afterWrite_of_reads h, if_neg h, State.goTo_phase]

theorem afterRead_phase (s : State) : (afterRead s).phase = if s.curOp = .plainRead then .done else .check := by
  by_cases h : s.curOp = .plainRead
  · rw [afterRead_of_plain (replyKind_eq_plain_iff.2 h), if_pos h, complete_eq, State.goTo_phase,
      State.setResBuf_curOp, h]
    rfl
  · rw [afterRead_of_not_plain (mt replyKind_eq_plain_iff.1 h), if_neg h, State.goTo_phase]

theorem stepCheck_phase (s : State) : (stepCheck s).phase =
    if s.matchFlag then (if s.curOp = .checksummedRead then .done else .decode) else .backoff := by
  cases hm : s.matchFlag with
  | false => rw [stepCheck_of_mismatch hm]; rfl
  | true =>
    rw [stepCheck_of_match hm, afterMatch]
    by_cases h : s.curOp = .checksummedRead
    · simp [h, complete_eq, Op.isWire]
    · simp [h]

/-- The command in execution may write a reading array: `UPDATE` and the two wire commands it performs
(10_state.md R37). -/
def Op.writesReadings : Op → Bool
  | .update | .readCounts | .readConc => true
  | .init | .readVref | .readStatus | .fanControl | .begin | .getReferenceVoltage | .getStatus
  | .setFan | .setDebug | .checksummedRead | .plainRead | .write => false

/-- Everything a decode can do: one array whole (43_decode.md R141, R142), after the first read of `UPDATE` with the
second read to come, or at most `res_value` (R143, R144). -/
theorem stepDecode_cases (s : State) :
    (s.curOp = .update ∧ s.curOpcode = 0x11) ∧ stepDecode s = decodeUpdateCounts s ∨
    s.curOp = .readCounts ∧ stepDecode s = (s.setCounts (decodeCounts s.reply)).complete ∨
    (s.curOp = .update ∧ s.curOpcode ≠ 0x11 ∨ s.curOp = .readConc) ∧
      stepDecode s = (s.setConc (decodeConc s.reply)).complete ∨
    s.curOp.writesReadings = false ∧ ∃ v, stepDecode s = (s.setResValue v).complete := by
  unfold stepDecode
  cases h : s.curOp with
  | update =>
    by_cases ho : s.curOpcode = 0x11
    · exact .inl ⟨⟨rfl, ho⟩, if_pos ho⟩
    · exact .inr (.inr (.inl ⟨.inl ⟨rfl, ho⟩, if_neg ho⟩))
  | readCounts => exact .inr (.inl ⟨rfl, rfl⟩)
  | readConc => exact .inr (.inr (.inl ⟨.inr rfl, rfl⟩))
  | getReferenceVoltage | getStatus => exact .inr (.inr (.inr ⟨rfl, _, rfl⟩))
  | _ => exact .inr (.inr (.inr ⟨rfl, s.resValue, rfl⟩))

theorem stepDecode_phase (s : State) : (stepDecode s).phase =
    if s.curOp = .update ∧ s.curOpcode = 0x11 then .write else if s.curOp.isWire then .idle else .done := by
  obtain ⟨h, e⟩ | ⟨h, e⟩ | ⟨h, e⟩ | ⟨h, v, e⟩ := stepDecode_cases s
  · rw [e, if_pos h]
    rfl
  · rw [e, if_neg (by simp [h])]
    rfl
  · rw [e, if_neg (by rcases h with ⟨-, h⟩ | h <;> simp_all)]
    rfl
  · rw [e, if_neg (by rintro ⟨h', -⟩; simp [h', Op.writesReadings] at h)]
    rfl

/-- Settles O44: a held transition keeps the phase; else each phase's transition is followed to its next phase. -/
theorem phasesAdvanceByTheTable : Obligations.PhasesAdvanceByTheTable := by
  intro s t hi hr hb hstep
  obtain rfl : t = advance s := by
    rw [step_of_busy hr hb] at hstep
    cases hstep
    rfl
  refine ⟨fun hh => ?_, fun hh => ⟨fun hp => ?_, fun hp => ?_, fun hp => ?_, fun hp => ?_, fun hp => ?_, fun hp => ?_,
    fun hp => ?_, fun hp => ?_, fun hp => ?_⟩⟩
  · obtain e | ⟨f, e⟩ := advance_of_held hh <;> rw [e]
    rfl
  · rw [advance_link hh hp, State.goTo_phase]
  · rw [advance_settle1 hh hp, State.goTo_phase]
  · rw [advance_prime hh hp, State.goTo_phase]
  · have hop : s.curOp = .begin := (hi.startup (by rw [hp]; rfl)).1
    rw [advance_settle2 hh hp, complete_eq, State.goTo_phase]
    simp [State.afterPrimitive, hop, Op.isWire]
  · rw [advance_write hh hp, afterWrite_phase]
    rfl
  · obtain ⟨r, w, e⟩ := advance_read hh hp
    rw [e, afterRead_phase]
    simp [State.afterReply]
  · rw [advance_of_check hp, stepCheck_phase]
  · rw [advance_backoff hh hp, State.goTo_phase]
  · rw [advance_of_decode hp, stepDecode_phase]

end Sys2Proof.Machine

namespace Sys2Proof.Machine

/-! ## What a transition leaves unchanged -/

/-- What a transition from `s` to `t` may not do: change the command or `debug`, take back an event, change `ready`
outside the startup sequence or enter that sequence, or change a reading for a command that decodes none. -/
structure Frame (s t : State) : Prop where
  curOp : t.curOp = s.curOp
  debug : t.debug = s.debug
  trace : s.trace <+: t.trace
  startup : s.phase.isStartup = false → t.phase.isStartup = false ∧ t.ready = s.ready
  readings : s.phase ≠ .decode ∨ s.curOp.writesReadings = false → SameReadings s t

theorem Frame.refl (s : State) : Frame s s := ⟨rfl, rfl, List.prefix_rfl, fun h => ⟨h, rfl⟩, fun _ => ⟨rfl, rfl⟩⟩

/-- Everything that can follow the command write: the reply read, or completion with or without success. -/
theorem afterWrite_cases (s : State) :
    s.curOp.replyKind ≠ .none ∧ afterWrite s = s.goTo .read ∨
      s.curOp.replyKind = .none ∧ ∃ b, afterWrite s = (s.setResOk b).complete := by
  by_cases h : s.curOp.replyKind = .none
  · refine .inr ⟨h, if s.curOp.reportsSuccess then true else s.resOk, ?_⟩
    rw [afterWrite_of_none h]
    split <;> rfl
  · exact .inl ⟨h, afterWrite_of_reads h⟩

/-- Everything the check can do: besides `crc`, complete a generic read, go on to decode, or back off (R128). -/
theorem stepCheck_cases (s : State) : ∃ c,
    s.matchFlag = true ∧ s.curOp = .checksummedRead ∧ stepCheck s = (s.setCrc c).setResBuf.complete ∨
      s.matchFlag = true ∧ s.curOp ≠ .checksummedRead ∧ stepCheck s = (s.setCrc c).goTo .decode ∨
      s.matchFlag = false ∧ stepCheck s = (s.setCrc c).goTo .backoff := by
  refine ⟨crcOver (payload s.reply s.bufLen.toNat), ?_⟩
  cases hm : s.matchFlag with
  | false => exact .inr (.inr ⟨rfl, stepCheck_of_mismatch hm⟩)
  | true =>
    by_cases h : s.curOp = .checksummedRead
    · exact .inl ⟨rfl, h, by rw [stepCheck_of_match hm, afterMatch, if_pos h]; rfl⟩
    · exact .inr (.inl ⟨rfl, h, by rw [stepCheck_of_match hm, afterMatch, if_neg h]; rfl⟩)

theorem Frame.goTo {s t : State} (h : Frame s t) {p : Phase} (hp : s.phase.isStartup = true ∨ p.isStartup = false) :
    Frame s (t.goTo p) where
  curOp := h.curOp
  debug := h.debug
  trace := h.trace
  startup h' := ⟨hp.resolve_left (by simp [h']), (h.startup h').2⟩
  readings := h.readings

theorem Frame.complete {s t : State} (h : Frame s t) : Frame s t.complete :=
  h.goTo (.inr (by split <;> rfl))

theorem Frame.afterPrimitive (e : Event) (s : State) : Frame s (s.afterPrimitive e) :=
  ⟨rfl, rfl, List.prefix_append _ _, fun h => ⟨h, rfl⟩, fun _ => ⟨rfl, rfl⟩⟩

theorem Frame.afterSending (f : Vector Byte Config.frameLen) (e : Event) (s : State) :
    Frame s ((s.setFrame f).afterPrimitive e) :=
  ⟨rfl, rfl, List.prefix_append _ _, fun h => ⟨h, rfl⟩, fun _ => ⟨rfl, rfl⟩⟩

theorem Frame.afterReply (r : Reply) (w : World) (s : State) : Frame s (s.afterReply r w) := by
  constructor <;> simp [State.afterReply, SameReadings]

theorem Frame.setResBuf {s t : State} (h : Frame s t) : Frame s t.setResBuf := by
  obtain ⟨hop, hd, ht, hp, hs⟩ := h
  constructor <;> simp_all [SameReadings]

theorem advance_frame (s : State) : Frame s (advance s) := by
  by_cases hh : s.Held
  · obtain e | ⟨f, e⟩ := advance_of_held hh <;> rw [e]
    · exact .refl s
    · exact ⟨rfl, rfl, List.prefix_rfl, fun h => ⟨h, rfl⟩, fun _ => ⟨rfl, rfl⟩⟩
  cases hp : s.phase with
  | idle => rw [advance_of_idle hp]; exact .refl s
  | done => rw [advance_of_done hp]; exact .refl s
  | link =>
    rw [advance_link hh hp]
    exact (Frame.afterPrimitive _ s).goTo (.inl (by rw [hp]; rfl))
  | settle1 =>
    rw [advance_settle1 hh hp]
    exact (Frame.afterPrimitive _ s).goTo (.inl (by rw [hp]; rfl))
  | prime =>
    rw [advance_prime hh hp]
    exact (Frame.afterSending _ _ s).goTo (.inl (by rw [hp]; rfl))
  | settle2 =>
    rw [advance_settle2 hh hp]
    exact Frame.complete ⟨rfl, rfl, List.prefix_append _ _, fun h => by simp [hp, Phase.isStartup] at h,
      fun _ => ⟨rfl, rfl⟩⟩
  | backoff =>
    rw [advance_backoff hh hp]
    exact (Frame.afterPrimitive _ s).goTo (.inr rfl)
  | write =>
    have hs := Frame.afterSending (commandFrame s.curOpcode s.curParam) (sent s.curOpcode s.curParam) s
    rw [advance_write hh hp]
    obtain ⟨-, e⟩ | ⟨-, b, e⟩ := afterWrite_cases ((s.setFrame (commandFrame s.curOpcode s.curParam)).afterPrimitive
      (sent s.curOpcode s.curParam)) <;> rw [e]
    · exact hs.goTo (.inr rfl)
    · exact Frame.complete ⟨rfl, rfl, hs.trace, hs.startup, hs.readings⟩
  | read =>
    obtain ⟨r, w, e⟩ := advance_read hh hp
    rw [e]
    by_cases hk : (s.afterReply r w).curOp.replyKind = .plain
    · rw [afterRead_of_plain hk]
      exact (Frame.afterReply r w s).setResBuf.complete
    · rw [afterRead_of_not_plain hk]
      exact (Frame.afterReply r w s).goTo (.inr rfl)
  | check =>
    rw [advance_of_check hp]
    obtain ⟨c, hc⟩ := stepCheck_cases s
    have hs : Frame s (s.setCrc c) := ⟨rfl, rfl, List.prefix_rfl, fun h => ⟨h, rfl⟩, fun _ => ⟨rfl, rfl⟩⟩
    obtain ⟨-, -, e⟩ | ⟨-, -, e⟩ | ⟨-, e⟩ := hc <;> rw [e]
    · exact hs.setResBuf.complete
    · exact hs.goTo (.inr rfl)
    · exact hs.goTo (.inr rfl)
  | decode =>
    rw [advance_of_decode hp]
    obtain ⟨⟨h, -⟩, e⟩ | ⟨h, e⟩ | ⟨h, e⟩ | ⟨-, v, e⟩ := stepDecode_cases s <;> rw [e]
    · constructor <;> simp [decodeUpdateCounts, h, hp, Phase.isStartup, Op.writesReadings]
    · refine Frame.complete ?_
      constructor <;> simp [h, hp, Op.writesReadings]
    · refine Frame.complete ?_
      constructor <;> rcases h with ⟨h, -⟩ | h <;> simp [h, hp, Op.writesReadings]
    · exact Frame.complete ⟨rfl, rfl, List.prefix_rfl, fun h => ⟨h, rfl⟩, fun _ => ⟨rfl, rfl⟩⟩

/-! ## What starting an instruction leaves unchanged -/

theorem startOf_trace (i : Instr) (s : State) : (startOf i s).trace = s.trace := by
  cases i <;> simp [startOf, load, startRead, startWrite, startBegin, Instr.isHost, complete_eq]

theorem startOf_readings (i : Instr) (s : State) : SameReadings s (startOf i s) := by
  cases i <;> simp [startOf, load, startRead, startWrite, startBegin, Instr.isHost, complete_eq, SameReadings]

theorem startOf_writesReadings (i : Instr) (s : State) : (startOf i s).curOp.writesReadings = i.writesReadings := by
  cases i <;> simp [startOf, load, startRead, startWrite, startBegin, complete_eq, Op.writesReadings,
    Instr.writesReadings]

theorem startOf_ready {i : Instr} (h : i ≠ .begin) (s : State) :
    (startOf i s).phase.isStartup = false ∧ (startOf i s).ready = s.ready := by
  cases i <;>
    simp_all [startOf, load, startRead, startWrite, Instr.isHost, complete_eq, Op.isWire, Phase.isStartup]

/-- Settles O51: a command that decodes no reading keeps its `cur_op`, so none of its transitions writes one. -/
theorem onlyUpdateWritesTheReadings : Obligations.OnlyUpdateWritesTheReadings := by
  intro i s t hi h
  obtain ⟨-, rfl⟩ | ⟨-, rfl⟩ := exec_next h
  · exact ⟨rfl, rfl⟩
  have hstep (u : State) (hu : u.curOp.writesReadings = false ∧ SameReadings s u) :
      (advance u).curOp.writesReadings = false ∧ SameReadings s (advance u) := by
    obtain ⟨hop, hs⟩ := hu
    have hf := advance_frame u
    obtain ⟨hc, hm⟩ := hf.readings (.inr hop)
    exact ⟨by rw [hf.curOp, hop], hc.trans hs.1, hm.trans hs.2⟩
  have hstart : (startOf i s).curOp.writesReadings = false ∧ SameReadings s (startOf i s) :=
    ⟨by rw [startOf_writesReadings, hi], startOf_readings i s⟩
  exact (advanceN_induction hstep _ hstart).2

theorem exec_trace {i : Instr} {s t : State} (h : exec i s = .next t) : s.trace <+: t.trace := by
  obtain ⟨-, rfl⟩ | ⟨-, rfl⟩ := exec_next h
  · exact List.prefix_rfl
  · exact advanceN_induction (P := fun u => s.trace <+: u.trace) (fun u hu => hu.trans (advance_frame u).trace) _
      (by rw [startOf_trace])

/-- Settles O52: of the cases of a step only an instruction and a transition touch the trace, and both append. -/
theorem traceOnlyGrows : Obligations.TraceOnlyGrows := by
  intro s t hr h
  obtain ⟨hr', -⟩ | ⟨-, ⟨-, -, rfl⟩ | ⟨-, c, i, -, -, he⟩ | ⟨-, rfl⟩ | ⟨-, rfl⟩⟩ := step_next h
  · simp [hr] at hr'
  · exact List.prefix_rfl
  · exact exec_trace (s := s.takePending) he
  · exact List.prefix_rfl
  · exact (advance_frame s).trace

/-- Outside the startup sequence no transition writes `ready` (40_transport.md R85). -/
theorem exec_ready {i : Instr} {s t : State} (hi : i ≠ .begin) (h : exec i s = .next t) : t.ready = s.ready := by
  obtain ⟨-, rfl⟩ | ⟨-, rfl⟩ := exec_next h
  · rfl
  have hstep (u : State) (hu : u.phase.isStartup = false ∧ u.ready = s.ready) :
      (advance u).phase.isStartup = false ∧ (advance u).ready = s.ready := by
    obtain ⟨hp, hr⟩ := (advance_frame u).startup hu.1
    exact ⟨hp, hr.trans hu.2⟩
  exact (advanceN_induction hstep _ (startOf_ready hi s)).2

theorem startOf_debug {i : Instr} (h : ∀ e, i ≠ .setDebug e) (s : State) : (startOf i s).debug = s.debug := by
  cases i <;> simp_all [startOf, load, startRead, startWrite, startBegin, Instr.isHost]

theorem exec_debug {i : Instr} {s t : State} (hi : ∀ e, i ≠ .setDebug e) (h : exec i s = .next t) :
    t.debug = s.debug := by
  obtain ⟨-, rfl⟩ | ⟨-, rfl⟩ := exec_next h
  · rfl
  · exact advanceN_induction (P := fun u => u.debug = s.debug) (fun u hu => by rw [(advance_frame u).debug, hu]) _
      (startOf_debug hi s)

/-- Settles O53. -/
theorem readyAndDebugHaveOneWriter : Obligations.ReadyAndDebugHaveOneWriter :=
  fun _ _ _ h => ⟨fun hi => exec_ready hi h, fun hi => exec_debug hi h⟩

end Sys2Proof.Machine

namespace Sys2Proof.Machine

/-! ## Traces the block can cause -/

/-- The two parts of the invariant that speak of the trace alone. -/
def TraceOk (t : List Event) : Prop := (∀ e ∈ t, e.wellFormed) ∧ ReadsFollowWrites t

/-- The last event is a write, so a read may follow (40_transport.md R88). -/
def EndsInWrite (t : List Event) : Prop := ∃ a bytes, t.getLast? = some (.busWrite a bytes)

theorem traceOk_nil : TraceOk [] := ⟨by simp, fun _ _ _ _ _ h => by simp at h⟩

/-- A well-formed event may be appended, a read after a write only. -/
theorem TraceOk.append {t : List Event} {e : Event} (h : TraceOk t) (he : e.wellFormed)
    (hr : ∀ a n r, e = .busRead a n r → EndsInWrite t) : TraceOk (t ++ [e]) := by
  obtain ⟨hw, hp⟩ := h
  refine ⟨fun x hx => ?_, fun pre a n r post heq => ?_⟩
  · rcases List.mem_append.1 hx with hx | hx
    · exact hw x hx
    · rwa [List.mem_singleton.1 hx]
  · obtain rfl | ⟨post, x, rfl⟩ := List.eq_nil_or_concat post
    · obtain ⟨rfl, hl⟩ := List.append_inj' heq rfl
      exact hr a n r (by simpa using hl)
    · rw [List.concat_eq_append, ← List.cons_append, ← List.append_assoc] at heq
      exact hp pre a n r post (List.append_inj' heq rfl).1

theorem TraceOk.wait {t : List Event} {ms : Nat} (h : TraceOk t) (hms : (Event.wait ms).wellFormed) :
    TraceOk (t ++ [.wait ms]) :=
  h.append hms (by simp)

theorem TraceOk.sent {t : List Event} (h : TraceOk t) (opcode param : Byte) : TraceOk (t ++ [sent opcode param]) :=
  h.append ⟨rfl, rfl, rfl⟩ (by simp [Machine.sent])

theorem endsInWrite_sent (t : List Event) (opcode param : Byte) : EndsInWrite (t ++ [sent opcode param]) :=
  ⟨_, _, List.getLast?_concat⟩

theorem TraceOk.received {t : List Event} (h : TraceOk t) (he : EndsInWrite t) (r : Reply) {n : Nat} (h1 : 1 ≤ n)
    (h32 : n ≤ 32) : TraceOk (t ++ [received n r]) :=
  h.append ⟨rfl, by rw [firstBytes_length]; omega, h1, h32⟩ fun _ _ _ _ => he

/-! ## The invariant, phase by phase -/

theorem State.Inv.traceOk {s : State} (h : s.Inv) : TraceOk s.trace := ⟨h.events, h.paired⟩

theorem inv_of_atRest {s : State} (ht : TraceOk s.trace) (hp : s.phase = .idle ∨ s.phase = .done) : s.Inv := by
  obtain ⟨he, hr⟩ := ht
  rcases hp with hp | hp <;> constructor <;> simp_all [Phase.isStartup, Phase.isFramer]

theorem inv_complete {s : State} (ht : TraceOk s.trace) : s.complete.Inv :=
  inv_of_atRest ht (by rw [complete_eq, State.goTo_phase]; split <;> simp)

theorem inv_of_startup {s : State} (ht : TraceOk s.trace) (hp : s.phase.isStartup = true) (hop : s.curOp = .begin)
    (hr : s.ready = false) : s.Inv := by
  obtain ⟨he, hf⟩ := ht
  cases h : s.phase with
  | link | settle1 | prime | settle2 => constructor <;> simp_all [Phase.isStartup, Phase.isFramer]
  | _ => simp [h, Phase.isStartup] at hp

theorem inv_of_write {s : State} (ht : TraceOk s.trace) (hp : s.phase = .write) (hr : s.ready = true)
    (hl : s.LatchesOk) : s.Inv := by
  obtain ⟨he, hf⟩ := ht
  constructor <;> simp_all [Phase.isStartup, Phase.isFramer]

theorem inv_of_read {s : State} (ht : TraceOk s.trace) (hp : s.phase = .read) (hr : s.ready = true)
    (hl : s.LatchesOk) (hk : s.curOp.replyKind ≠ .none) (hw : EndsInWrite s.trace) : s.Inv := by
  obtain ⟨he, hf⟩ := ht
  rw [EndsInWrite] at hw
  constructor <;> simp_all [Phase.isStartup, Phase.isFramer]

/-- `buf` holds the checksummed reply just read. -/
def State.HoldsReply (s : State) : Prop :=
  s.curOp.replyKind = .checked ∧ s.bufLen = s.curLen ∧
    s.trace.getLast? = some (.busRead Config.busAddr s.curLen.toNat s.reply)

theorem inv_of_check {s : State} (ht : TraceOk s.trace) (hp : s.phase = .check) (hr : s.ready = true)
    (hl : s.LatchesOk) (hb : s.HoldsReply) : s.Inv := by
  obtain ⟨he, hf⟩ := ht
  obtain ⟨hk, hn, hg⟩ := hb
  constructor <;> simp_all [Phase.isStartup, Phase.isFramer]

theorem inv_of_decode {s : State} (ht : TraceOk s.trace) (hp : s.phase = .decode) (hr : s.ready = true)
    (hl : s.LatchesOk) (hb : s.HoldsReply) (hm : s.matchFlag = true) (hop : s.curOp ≠ .checksummedRead) : s.Inv := by
  obtain ⟨he, hf⟩ := ht
  obtain ⟨hk, hn, hg⟩ := hb
  constructor <;> simp_all [Phase.isStartup, Phase.isFramer]

theorem inv_of_backoff {s : State} (ht : TraceOk s.trace) (hp : s.phase = .backoff) (hr : s.ready = true)
    (hl : s.LatchesOk) (hk : s.curOp.replyKind = .checked) : s.Inv := by
  obtain ⟨he, hf⟩ := ht
  constructor <;> simp_all [Phase.isStartup, Phase.isFramer]

/-- A command that checks its reply has latched a length of 2 to 32 (42_checked_read.md R120). -/
theorem State.LatchesOk.checkedLen_bounds {s : State} (h : s.LatchesOk) (hk : s.curOp.replyKind = .checked) :
    2 ≤ s.curLen.toNat ∧ s.curLen.toNat ≤ 32 := by
  unfold State.LatchesOk at h
  cases hop : s.curOp with
  | update =>
    rw [hop] at h
    obtain ⟨-, ⟨-, hn⟩ | ⟨-, hn⟩⟩ := h <;> simp [hn]
  | _ => simp_all [Op.replyKind]

/-- A command that reads a reply has latched a length of 1 to 32 (20_memory.md R49). -/
theorem State.LatchesOk.curLen_bounds {s : State} (h : s.LatchesOk) (hk : s.curOp.replyKind ≠ .none) :
    1 ≤ s.curLen.toNat ∧ s.curLen.toNat ≤ 32 := by
  cases hc : s.curOp.replyKind with
  | none => exact absurd hc hk
  | plain =>
    rw [State.LatchesOk, replyKind_eq_plain_iff.1 hc] at h
    exact h.2
  | checked =>
    obtain ⟨h2, h32⟩ := h.checkedLen_bounds hc
    exact ⟨by omega, h32⟩

theorem State.afterReply_reply (r : Reply) (w : World) (s : State) :
    (s.afterReply r w).reply = firstBytes r s.curLen.toNat := by
  simp only [State.reply, State.afterReply, State.record_buf, State.record_bufLen, State.setReply_buf,
    State.setReply_bufLen]
  exact overwrite_take _ _ _

theorem State.HoldsReply.goTo {s : State} (h : s.HoldsReply) (p : Phase) : (s.goTo p).HoldsReply := h

/-- The operands of a command depend on the latches only. -/
theorem State.LatchesOk.of_eq {s t : State} (h : s.LatchesOk) (hop : t.curOp = s.curOp)
    (ho : t.curOpcode = s.curOpcode) (hp : t.curParam = s.curParam) (hn : t.curLen = s.curLen) : t.LatchesOk := by
  rw [State.LatchesOk, hop, ho, hp, hn]
  exact h

/-- A checked read leaves its reply in `buf` and its event last in the trace (40_transport.md R83). -/
theorem State.afterReply_holdsReply {s : State} (h : s.curOp.replyKind = .checked) (r : Reply) (w : World) :
    (s.afterReply r w).HoldsReply := by
  refine ⟨by simpa [State.afterReply] using h, by simp [State.afterReply], ?_⟩
  rw [State.afterReply_reply]
  simp [State.afterReply, received, Config.busAddr]

/-! ## Every transition keeps the invariant -/

theorem State.Inv.setFrame {s : State} (h : s.Inv) (f : Vector Byte Config.frameLen) : (s.setFrame f).Inv where
  events := h.events
  paired := h.paired
  readNext := h.readNext
  startup := h.startup
  framerReady := h.framerReady
  latches := h.latches
  reads := h.reads
  inBuf := h.inBuf
  backing := h.backing
  decoded := h.decoded

theorem advance_inv_of_startup {s : State} (h : s.Inv) (hh : ¬ s.Held) (hp : s.phase.isStartup = true) :
    (advance s).Inv := by
  obtain ⟨hop, hr⟩ := h.startup hp
  cases hph : s.phase with
  | link =>
    rw [advance_link hh hph]
    exact inv_of_startup (h.traceOk.append trivial (by simp)) rfl hop hr
  | settle1 =>
    rw [advance_settle1 hh hph]
    exact inv_of_startup (h.traceOk.wait (ms := 100) (.inl rfl)) rfl hop hr
  | prime =>
    rw [advance_prime hh hph]
    exact inv_of_startup (h.traceOk.sent _ _) rfl hop hr
  | settle2 =>
    rw [advance_settle2 hh hph]
    exact inv_complete (h.traceOk.wait (ms := 1000) (.inr (.inl rfl)))
  | _ => simp [hph, Phase.isStartup] at hp

theorem advance_inv_of_write {s : State} (h : s.Inv) (hh : ¬ s.Held) (hp : s.phase = .write) : (advance s).Inv := by
  have hf : s.phase.isFramer = true := by rw [hp]; rfl
  have ht := h.traceOk.sent s.curOpcode s.curParam
  rw [advance_write hh hp]
  obtain ⟨hk, e⟩ | ⟨-, b, e⟩ := afterWrite_cases ((s.setFrame (commandFrame s.curOpcode s.curParam)).afterPrimitive
    (sent s.curOpcode s.curParam)) <;> rw [e]
  · exact inv_of_read ht rfl (h.framerReady hf) ((h.latches hf).of_eq rfl rfl rfl rfl) hk (endsInWrite_sent _ _ _)
  · exact inv_complete ht

theorem advance_inv_of_read {s : State} (h : s.Inv) (hh : ¬ s.Held) (hp : s.phase = .read) : (advance s).Inv := by
  have hf : s.phase.isFramer = true := by rw [hp]; rfl
  have hk := h.reads hf (by simp [hp])
  obtain ⟨h1, h32⟩ := (h.latches hf).curLen_bounds hk
  obtain ⟨r, w, e⟩ := advance_read hh hp
  have ht : TraceOk (s.afterReply r w).trace := by
    simpa [State.afterReply] using h.traceOk.received (h.readNext hp) r h1 h32
  rw [e]
  cases hc : s.curOp.replyKind with
  | none => exact absurd hc hk
  | plain =>
    rw [afterRead_of_plain (by simpa [State.afterReply] using hc)]
    exact inv_complete (by simpa using ht)
  | checked =>
    rw [afterRead_of_checked (by simpa [State.afterReply] using hc)]
    exact inv_of_check (by simpa using ht) rfl (by simpa [State.afterReply] using h.framerReady hf)
      (by simpa [State.LatchesOk, State.afterReply] using h.latches hf) ((State.afterReply_holdsReply hc r w).goTo .check)

theorem advance_inv_of_check {s : State} (h : s.Inv) (hp : s.phase = .check) : (advance s).Inv := by
  have hf : s.phase.isFramer = true := by rw [hp]; rfl
  obtain ⟨c, hc⟩ := stepCheck_cases s
  have hb : (s.setCrc c).HoldsReply := h.inBuf (.inl hp)
  rw [advance_of_check hp]
  obtain ⟨-, -, e⟩ | ⟨hm, hop, e⟩ | ⟨-, e⟩ := hc <;> rw [e]
  · exact inv_complete (by simpa using h.traceOk)
  · exact inv_of_decode h.traceOk rfl (h.framerReady hf) ((h.latches hf).of_eq rfl rfl rfl rfl) hb hm hop
  · exact inv_of_backoff h.traceOk rfl (h.framerReady hf) ((h.latches hf).of_eq rfl rfl rfl rfl) hb.1

theorem advance_inv_of_decode {s : State} (h : s.Inv) (hp : s.phase = .decode) : (advance s).Inv := by
  have hf : s.phase.isFramer = true := by rw [hp]; rfl
  rw [advance_of_decode hp]
  obtain ⟨⟨hop, -⟩, e⟩ | ⟨-, e⟩ | ⟨-, e⟩ | ⟨-, v, e⟩ := stepDecode_cases s <;> rw [e]
  · refine inv_of_write h.traceOk rfl (h.framerReady hf) ?_
    simp [State.LatchesOk, decodeUpdateCounts, hop, Config.opReadConc, Config.lenConc]
  · exact inv_complete h.traceOk
  · exact inv_complete h.traceOk
  · exact inv_complete h.traceOk

theorem advance_inv {s : State} (h : s.Inv) : (advance s).Inv := by
  by_cases hh : s.Held
  · obtain e | ⟨f, e⟩ := advance_of_held hh <;> rw [e]
    · exact h
    · exact h.setFrame f
  cases hp : s.phase with
  | idle => rwa [advance_of_idle hp]
  | done => rwa [advance_of_done hp]
  | link | settle1 | prime | settle2 => exact advance_inv_of_startup h hh (by rw [hp]; rfl)
  | write => exact advance_inv_of_write h hh hp
  | read => exact advance_inv_of_read h hh hp
  | check => exact advance_inv_of_check h hp
  | decode => exact advance_inv_of_decode h hp
  | backoff =>
    have hf : s.phase.isFramer = true := by rw [hp]; rfl
    rw [advance_backoff hh hp]
    exact inv_of_write (h.traceOk.wait (ms := 1000) (.inr (.inr rfl))) rfl (h.framerReady hf)
      ((h.latches hf).of_eq rfl rfl rfl rfl)

end Sys2Proof.Machine

namespace Sys2Proof.Machine

/-! ## Every step keeps the invariant -/

theorem boolByte_cases (b : Bool) : boolByte b = 0 ∨ boolByte b = 1 := by cases b <;> simp [boolByte]

/-- Acceptance loads the latches as the invariant requires (10_state.md R26). -/
theorem load_inv {i : Instr} {s : State} (ht : TraceOk s.trace) (hr : i.needsReady = true → s.ready = true)
    (hl : i.wellFormed = true) : (load i s).Inv := by
  cases i with
  | begin => exact inv_of_startup ht rfl rfl rfl
  | setDebug => exact inv_complete ht
  | fanControl p => exact inv_of_write ht rfl (hr rfl) ⟨rfl, boolByte_cases p⟩
  | setFan on => exact inv_of_write ht rfl (hr rfl) ⟨rfl, boolByte_cases on⟩
  | init => exact inv_of_write ht rfl (hr rfl) ⟨rfl, rfl⟩
  | write => exact inv_of_write ht rfl (hr rfl) trivial
  | update => exact inv_of_write ht rfl (hr rfl) ⟨rfl, .inl ⟨rfl, rfl⟩⟩
  | readCounts | readConc | readVref | readStatus | getReferenceVoltage | getStatus =>
    exact inv_of_write ht rfl (hr rfl) ⟨rfl, rfl, rfl⟩
  | checksummedRead opcode len | plainRead opcode len =>
    obtain ⟨hlo, hhi⟩ := of_decide_eq_true hl
    have hn := latchedLen_toNat hhi
    exact inv_of_write ht rfl (hr rfl) ⟨rfl, hn ▸ hlo, hn ▸ hhi⟩

theorem startOf_inv {i : Instr} {s : State} (ht : TraceOk s.trace) (h : Accepts i s) : (startOf i s).Inv := by
  obtain ⟨-, hr, hl⟩ := h
  rw [startOf]
  split
  · exact load_inv ht hr hl
  · exact load_inv ht hr hl

/-- The readings stay genuine where they stay the same and no event is taken back. -/
theorem State.Genuine.mono {s t : State} (h : s.Genuine) (hs : SameReadings s t) (ht : s.trace <+: t.trace) :
    t.Genuine := by
  obtain ⟨hc, hm⟩ := h
  obtain ⟨ec, em⟩ := hs
  refine ⟨?_, ?_⟩
  · rw [ec]
    exact hc.imp_right fun ⟨r, hr, hv⟩ => ⟨r, ht.subset hr, hv⟩
  · rw [em]
    exact hm.imp_right fun ⟨r, hr, hv⟩ => ⟨r, ht.subset hr, hv⟩

/-- About to decode, `buf` holds a checksum-valid reply of the length asked for, read on the bus (43_decode.md R140). -/
theorem State.Inv.reply_of_decode {s : State} (h : s.Inv) (hp : s.phase = .decode) :
    .busRead 0x4B s.curLen.toNat s.reply ∈ s.trace ∧ checksumValid s.reply := by
  have hl := h.latches (by rw [hp]; rfl)
  obtain ⟨hk, hn, hg⟩ := h.inBuf (.inr hp)
  obtain ⟨h2, h32⟩ := hl.checkedLen_bounds hk
  have hm : valCheck s.reply s.bufLen.toNat = true := (h.decoded hp).1
  refine ⟨List.mem_of_getLast? hg, (valCheck_eq_true_iff ?_ ?_).1 hm⟩
  · rwa [hn]
  · rw [State.reply, List.length_take, Vector.length_toList, hn]
    exact Nat.min_eq_left h32

/-- The length latched is the counts reply's (R141) where the counts are decoded next. -/
theorem State.LatchesOk.curLen_counts {s : State} (h : s.LatchesOk)
    (hop : s.curOp = .readCounts ∨ s.curOp = .update ∧ s.curOpcode = 0x11) : s.curLen = 30 := by
  unfold State.LatchesOk at h
  rcases hop with hop | ⟨hop, ho⟩ <;> simp_all

/-- The length latched is the concentrations reply's (R142) where the concentrations are decoded next. -/
theorem State.LatchesOk.curLen_conc {s : State} (h : s.LatchesOk)
    (hop : s.curOp = .update ∧ s.curOpcode ≠ 0x11 ∨ s.curOp = .readConc) : s.curLen = 32 := by
  unfold State.LatchesOk at h
  rcases hop with ⟨hop, ho⟩ | hop <;> simp_all

theorem stepDecode_genuine {s : State} (hi : s.Inv) (hg : s.Genuine) (hp : s.phase = .decode) :
    (stepDecode s).Genuine := by
  obtain ⟨hmem, hv⟩ := hi.reply_of_decode hp
  have hl := hi.latches (by rw [hp]; rfl)
  have counts (hop) : (s.setCounts (decodeCounts s.reply)).Genuine :=
    ⟨.inr ⟨s.reply, by rw [hl.curLen_counts hop] at hmem; exact hmem, hv, rfl⟩, hg.2⟩
  have conc (hop) : (s.setConc (decodeConc s.reply)).Genuine :=
    ⟨hg.1, .inr ⟨s.reply, by rw [hl.curLen_conc hop] at hmem; exact hmem, hv, rfl⟩⟩
  obtain ⟨h, e⟩ | ⟨h, e⟩ | ⟨h, e⟩ | ⟨-, v, e⟩ := stepDecode_cases s <;> rw [e]
  · exact counts (.inr h)
  · exact counts (.inl h)
  · exact conc h
  · exact hg

theorem advance_genuine {s : State} (hi : s.Inv) (hg : s.Genuine) : (advance s).Genuine := by
  by_cases hp : s.phase = .decode
  · rw [advance_of_decode hp]
    exact stepDecode_genuine hi hg hp
  · have hf := advance_frame s
    exact hg.mono (hf.readings (.inl hp)) hf.trace

theorem exec_genuine {i : Instr} {s t : State} (hi : s.Inv) (hg : s.Genuine) (h : exec i s = .next t) :
    t.Genuine := by
  obtain ⟨-, rfl⟩ | ⟨ha, rfl⟩ := exec_next h
  · exact hg
  have hstep (u : State) (hu : u.Inv ∧ u.Genuine) : (advance u).Inv ∧ (advance u).Genuine :=
    ⟨advance_inv hu.1, advance_genuine hu.1 hu.2⟩
  have hstart : (startOf i s).Inv ∧ (startOf i s).Genuine :=
    ⟨startOf_inv hi.traceOk ha, hg.mono (startOf_readings i s) (by rw [startOf_trace])⟩
  exact (advanceN_induction hstep _ hstart).2

theorem State.Inv.takePending {s : State} (h : s.Inv) : s.takePending.Inv where
  events := h.events
  paired := h.paired
  readNext := h.readNext
  startup := h.startup
  framerReady := h.framerReady
  latches := h.latches
  reads := h.reads
  inBuf := h.inBuf
  backing := h.backing
  decoded := h.decoded

/-- Settles O50: the arrays change in `DECODE` only, where the invariant says that `buf` holds a checksum-valid reply read
on the bus; the invariant holds of each state a command passes through. -/
theorem stepKeepsReadingsGenuine : Obligations.StepKeepsReadingsGenuine := by
  intro s t hi hg h
  obtain ⟨-, rfl⟩ | ⟨-, ⟨-, -, rfl⟩ | ⟨-, c, i, -, -, he⟩ | ⟨-, rfl⟩ | ⟨-, rfl⟩⟩ := step_next h
  · exact ⟨.inl rfl, .inl rfl⟩
  · exact hg
  · exact exec_genuine (s := s.takePending) hi.takePending hg he
  · exact hg
  · exact advance_genuine hi hg

/-- Settles O48: at reset the block is idle and its trace empty. -/
theorem invHoldsAtReset : Obligations.InvHoldsAtReset :=
  ⟨inv_of_atRest traceOk_nil (.inl rfl), .inl rfl, .inl rfl⟩

/-- Settles O38. -/
theorem resetValues : Obligations.ResetValues :=
  ⟨fun i => ⟨by simp [State.reset], by simp [State.reset]⟩, rfl, rfl, rfl, rfl, rfl⟩

end Sys2Proof.Machine

namespace Sys2Proof.Machine

/-! ## Two runs that start with other scratch contents -/

/-- The registers whose contents before acceptance no command depends on: the scratch state and the latches
(10_state.md R23 to R26), and `debug` (R31). -/
structure Side where
  crc : CrcWord
  frame : Vector Byte Config.frameLen
  buf : Vector Byte Config.maxReplyLen
  bufLen : BitVec 6
  curOp : Op
  curOpcode : Byte
  curParam : Byte
  curLen : BitVec 6
  debug : Bool

def State.side (s : State) : Side :=
  ⟨s.crc, s.frame, s.buf, s.bufLen, s.curOp, s.curOpcode, s.curParam, s.curLen, s.debug⟩

/-- The same state with other contents of these registers. -/
def State.withSide (x : Side) (s : State) : State :=
  { s with
    crc := x.crc, frame := x.frame, buf := x.buf, bufLen := x.bufLen, curOp := x.curOp, curOpcode := x.curOpcode
    curParam := x.curParam, curLen := x.curLen, debug := x.debug }

/-- Two runs agree in a register, or it still has in each the contents the run started with. -/
def AgreeOrKept {α : Type} (start start' now now' : α) : Prop := now' = now ∨ now' = start' ∧ now = start

theorem AgreeOrKept.eq {α : Type} {start now now' : α} (h : AgreeOrKept start start now now') : now' = now := by
  obtain h | ⟨h', h⟩ := h
  · exact h
  · rw [h, h']

/-- The registers `v`, `w` of two runs in phase `p`, started with `a`, `b`: each agrees or is untouched in both, and
what the rest of the run reads agrees: in the framer's loop the operands, past the read the reply. -/
structure Sim (a b : Side) (p : Phase) (v w : Side) : Prop where
  crc : AgreeOrKept a.crc b.crc v.crc w.crc
  frame : AgreeOrKept a.frame b.frame v.frame w.frame
  buf : ∀ (k : Nat) (h : k < Config.maxReplyLen), AgreeOrKept a.buf[k] b.buf[k] v.buf[k] w.buf[k]
  bufLen : AgreeOrKept a.bufLen b.bufLen v.bufLen w.bufLen
  curOp : w.curOp = v.curOp
  curOpcode : AgreeOrKept a.curOpcode b.curOpcode v.curOpcode w.curOpcode
  curParam : AgreeOrKept a.curParam b.curParam v.curParam w.curParam
  curLen : AgreeOrKept a.curLen b.curLen v.curLen w.curLen
  debug : AgreeOrKept a.debug b.debug v.debug w.debug
  sends : p.isFramer = true → w.curOpcode = v.curOpcode ∧ w.curParam = v.curParam
  reads : p.isFramer = true → (p = .write → v.curOp.replyKind ≠ .none) → w.curLen = v.curLen
  holds : p = .check ∨ p = .decode →
    w.bufLen = v.bufLen ∧ ∀ (k : Nat) (h : k < Config.maxReplyLen), k < v.bufLen.toNat → w.buf[k] = v.buf[k]

/-- `t'` is `t` but for registers that simulate those of `t`. -/
def Follows (a b : Side) (t t' : State) : Prop := ∃ y, t' = t.withSide y ∧ Sim a b t.phase t.side y

section
variable {a b v w : Side} {p q : Phase} {s : State} {x : Side}

/-! ### Changing the phase -/

/-- Outside the framer's loop the rest of the run reads `cur_op` only. -/
theorem Sim.leaveLoop (h : Sim a b p v w) (hq : q.isFramer = false) : Sim a b q v w :=
  { h with
    sends := by simp [hq]
    reads := by simp [hq]
    holds := by rintro (rfl | rfl) <;> simp [Phase.isFramer] at hq }

/-- Within the framer's loop, before a reply is held, the operands are what the rest of the run reads. -/
theorem Sim.stayInLoop (h : Sim a b p v w) (hp : p.isFramer = true) (hr : p = .write → v.curOp.replyKind ≠ .none)
    (hq : q = .write ∨ q = .read ∨ q = .backoff) : Sim a b q v w :=
  { h with
    sends := fun _ => h.sends hp
    reads := fun _ _ => h.reads hp hr
    holds := by rcases hq with rfl | rfl | rfl <;> simp }

/-- A checked reply is kept for its decode. -/
theorem Sim.toDecode (h : Sim a b .check v w) : Sim a b .decode v w :=
  { h with
    sends := fun _ => h.sends rfl
    reads := fun _ _ => h.reads rfl (by simp)
    holds := fun _ => h.holds (.inl rfl) }

theorem Follows.goTo (hs : Sim a b q s.side x) : Follows a b (s.goTo q) ((s.withSide x).goTo q) := ⟨x, rfl, hs⟩

theorem Follows.complete (h : Sim a b p s.side x) : Follows a b s.complete (s.withSide x).complete := by
  have hop : (s.withSide x).curOp = s.curOp := h.curOp
  rw [complete_eq, complete_eq, hop]
  exact Follows.goTo (h.leaveLoop (by split <;> rfl))

/-! ### Primitives -/

theorem Follows.onComplete {k : State → State} (hs : Sim a b s.phase s.side x)
    (hk : ∀ w, Follows a b (k (s.setWorld w)) (k ((s.setWorld w).withSide x))) :
    Follows a b (s.onComplete k) ((s.withSide x).onComplete k) := by
  have hw : (s.withSide x).world = s.world := rfl
  unfold State.onComplete
  rw [hw]
  cases s.world.complete with
  | none => exact ⟨x, rfl, hs⟩
  | some w => exact hk w

/-! ### Register writes -/

theorem Sim.setFrame (h : Sim a b p v w) (f : Vector Byte Config.frameLen) :
    Sim a b p { v with frame := f } { w with frame := f } := { h with frame := .inl rfl }

theorem Sim.setCrc (h : Sim a b p v w) (c : CrcWord) : Sim a b p { v with crc := c } { w with crc := c } :=
  { h with crc := .inl rfl }

theorem withSide_setReply (r : Reply) (n : BitVec 6) : (s.withSide x).setReply r n =
    (s.setReply r n).withSide { x with buf := overwrite x.buf r n.toNat, bufLen := n } := by
  simp only [State.setReply, State.withSide]

/-- A reply read makes the bytes read agree, and leaves the rest of `buf` as it was (log 7). -/
theorem overwrite_agreeOrKept {k n : Nat} (h : Sim a b p v w) (r : Reply) (hk : k < Config.maxReplyLen) :
    AgreeOrKept a.buf[k] b.buf[k] (overwrite v.buf r n)[k] (overwrite w.buf r n)[k] := by
  simp only [overwrite_getElem]
  split
  · exact .inl rfl
  · exact h.buf k hk

/-- The reply is read with the same length in both runs, so both hold it. -/
theorem Sim.setReply (h : Sim a b .read v w) (r : Reply) :
    Sim a b .check { v with buf := overwrite v.buf r v.curLen.toNat, bufLen := v.curLen }
      { w with buf := overwrite w.buf r v.curLen.toNat, bufLen := v.curLen } :=
  { h with
    buf := fun _ hk => overwrite_agreeOrKept h r hk
    bufLen := .inl rfl
    sends := fun _ => h.sends rfl
    reads := fun _ _ => h.reads rfl (by simp)
    holds := fun _ => ⟨rfl, fun k hk hn => by simp [hn]⟩ }

/-- Where both runs hold the reply, the results presented are the same. -/
theorem overwrite_of_holds (h : Sim a b p v w) (hp : p = .check ∨ p = .decode) (c : Vector Byte Config.maxReplyLen) :
    overwrite c w.buf w.bufLen.toNat = overwrite c v.buf v.bufLen.toNat := by
  obtain ⟨hn, hb⟩ := h.holds hp
  ext k hk
  rw [hn, overwrite_getElem, overwrite_getElem]
  split
  · rw [hb k hk ‹_›]
  · rfl

theorem withSide_reply (h : Sim a b p s.side x) (hp : p = .check ∨ p = .decode) : (s.withSide x).reply = s.reply := by
  obtain ⟨hn, hb⟩ := h.holds hp
  have hlen : x.bufLen = s.bufLen := hn
  simp only [State.reply, State.withSide, hlen]
  refine List.ext_getElem (by simp) fun k h₁ h₂ => ?_
  simp only [List.length_take, Vector.length_toList, Nat.lt_min] at h₂
  simpa [State.side] using hb k h₂.2 h₂.1

theorem setResBuf_withSide (h : Sim a b p s.side x) (hp : p = .check ∨ p = .decode) :
    (s.withSide x).setResBuf = s.setResBuf.withSide x := by
  have hb := overwrite_of_holds h hp s.resBuf
  obtain ⟨hn, -⟩ := h.holds hp
  simp only [State.setResBuf, State.withSide]
  simp only [State.side] at hb hn
  rw [hb, hn]

/-! ### The transport operations -/

theorem Follows.writeCommand {opcode param : Byte} {k : State → State} (hs : Sim a b s.phase s.side x)
    (hk : ∀ u, u.side = { s.side with frame := commandFrame opcode param } →
      Follows a b (k u) (k (u.withSide { x with frame := commandFrame opcode param }))) :
    Follows a b (s.writeCommand opcode param k) ((s.withSide x).writeCommand opcode param k) :=
  .onComplete (s := s.setFrame (commandFrame opcode param))
    (k := fun u => k (u.record (.busWrite Config.busAddr u.frame.toList))) (hs.setFrame _)
    fun w => hk (((s.setFrame (commandFrame opcode param)).setWorld w).record (sent opcode param)) rfl

theorem Follows.readReply {n : BitVec 6} {k : State → State} (hs : Sim a b s.phase s.side x)
    (hk : ∀ u r, u.side = { s.side with buf := overwrite s.buf r n.toNat, bufLen := n } →
      Follows a b (k u) (k (u.withSide { x with buf := overwrite x.buf r n.toNat, bufLen := n }))) :
    Follows a b (s.readReply n k) ((s.withSide x).readReply n k) := by
  cases ha : s.world.answer with
  | none =>
    rw [State.readReply_of_hang ha, State.readReply_of_hang (s := s.withSide x) ha]
    exact ⟨x, rfl, hs⟩
  | some p =>
    rw [State.readReply_of_answer ha, State.readReply_of_answer (s := s.withSide x) ha]
    have hu := hk (((s.setWorld p.2).setReply p.1 n).record (received n.toNat p.1)) p.1 (by simp [State.side])
    rwa [show (s.withSide x).setWorld p.2 = (s.setWorld p.2).withSide x from rfl, withSide_setReply]

/-! ### The phases -/

theorem afterWrite_follows (h : Sim a b .write s.side x) :
    Follows a b (afterWrite s) (afterWrite (s.withSide x)) := by
  have hop : (s.withSide x).curOp = s.curOp := h.curOp
  by_cases hk : s.curOp.replyKind = .none
  · rw [afterWrite_of_none hk, afterWrite_of_none (by rwa [hop]), hop]
    split
    · exact Follows.complete (s := s.setResOk true) h
    · exact Follows.complete h
  · rw [afterWrite_of_reads hk, afterWrite_of_reads (by rwa [hop])]
    exact Follows.goTo (h.stayInLoop rfl (fun _ => hk) (by simp))

theorem afterRead_follows (h : Sim a b .check s.side x) :
    Follows a b (afterRead s) (afterRead (s.withSide x)) := by
  have hop : (s.withSide x).curOp = s.curOp := h.curOp
  by_cases hk : s.curOp.replyKind = .plain
  · rw [afterRead_of_plain hk, afterRead_of_plain (by rwa [hop]), setResBuf_withSide h (.inl rfl)]
    exact Follows.complete (s := s.setResBuf) (p := .check) (by simpa [State.side] using h)
  · rw [afterRead_of_not_plain hk, afterRead_of_not_plain (by rwa [hop])]
    exact Follows.goTo h

/-- The first decode of `UPDATE` reloads the latches, with the same operands in both runs. -/
theorem decodeUpdateCounts_follows (h : Sim a b .decode s.side x) :
    Follows a b (decodeUpdateCounts s) (decodeUpdateCounts (s.withSide x)) := by
  unfold decodeUpdateCounts
  rw [withSide_reply h (.inr rfl)]
  exact ⟨{ x with curOpcode := Config.opReadConc, curParam := 0, curLen := Config.lenConc }, rfl,
    { h with
      curOpcode := .inl rfl
      curParam := .inl rfl
      curLen := .inl rfl
      sends := fun _ => ⟨rfl, rfl⟩
      reads := fun _ _ => rfl
      holds := by simp }⟩

theorem stepDecode_follows (h : Sim a b .decode s.side x) :
    Follows a b (stepDecode s) (stepDecode (s.withSide x)) := by
  have hop : (s.withSide x).curOp = s.curOp := h.curOp
  have ho : (s.withSide x).curOpcode = s.curOpcode := (h.sends rfl).1
  have hr := withSide_reply h (.inr rfl)
  unfold stepDecode
  rw [hop, ho, hr]
  cases s.curOp with
  | update =>
    dsimp only
    split
    · exact decodeUpdateCounts_follows h
    · exact Follows.complete (s := s.setConc _) h
  | readCounts => exact Follows.complete (s := s.setCounts _) h
  | readConc => exact Follows.complete (s := s.setConc _) h
  | getReferenceVoltage | getStatus => exact Follows.complete (s := s.setResValue _) h
  | _ => exact Follows.complete h

theorem stepCheck_follows (h : Sim a b .check s.side x) :
    Follows a b (stepCheck s) (stepCheck (s.withSide x)) := by
  have hop : (s.withSide x).curOp = s.curOp := h.curOp
  have hn : (s.withSide x).bufLen = s.bufLen := (h.holds (.inl rfl)).1
  have hr := withSide_reply h (.inl rfl)
  have hm : (s.withSide x).matchFlag = s.matchFlag := by rw [State.matchFlag, State.matchFlag, hr, hn]
  have hc := h.setCrc (crcOver (payload s.reply s.bufLen.toNat))
  unfold stepCheck
  rw [hm, hop, hr, hn]
  dsimp only
  split
  · split
    · rw [show (s.withSide x).setCrc _ = (s.setCrc _).withSide { x with crc := _ } from rfl,
        setResBuf_withSide (s := s.setCrc _) hc (.inl rfl)]
      exact Follows.complete (s := (s.setCrc _).setResBuf) (p := .check) (by simpa [State.side] using hc)
    · exact Follows.goTo (s := s.setCrc _) hc.toDecode
  · exact Follows.goTo (s := s.setCrc _) (hc.stayInLoop rfl (by simp) (by simp))

theorem stepWrite_follows (hs : Sim a b s.phase s.side x) (hp : s.phase = .write) :
    Follows a b (stepWrite s) (stepWrite (s.withSide x)) := by
  have h : Sim a b .write s.side x := hp ▸ hs
  obtain ⟨ho, hpar⟩ := h.sends rfl
  unfold stepWrite
  rw [show (s.withSide x).curOpcode = s.curOpcode from ho, show (s.withSide x).curParam = s.curParam from hpar]
  exact .writeCommand hs fun u hu => afterWrite_follows (hu ▸ h.setFrame _)

theorem stepRead_follows (hs : Sim a b s.phase s.side x) (hp : s.phase = .read) :
    Follows a b (stepRead s) (stepRead (s.withSide x)) := by
  have h : Sim a b .read s.side x := hp ▸ hs
  unfold stepRead
  rw [show (s.withSide x).curLen = s.curLen from h.reads rfl (by simp)]
  exact .readReply hs fun u r hu => afterRead_follows (hu ▸ h.setReply r)

theorem advance_follows (h : Sim a b s.phase s.side x) : Follows a b (advance s) (advance (s.withSide x)) := by
  cases hp : s.phase with
  | idle => rw [advance_of_idle hp, advance_of_idle (s := s.withSide x) hp]; exact ⟨x, rfl, h⟩
  | done => rw [advance_of_done hp, advance_of_done (s := s.withSide x) hp]; exact ⟨x, rfl, h⟩
  | link =>
    rw [advance_of_link hp, advance_of_link (s := s.withSide x) hp]
    exact .onComplete h fun w => .goTo (h.leaveLoop rfl)
  | settle1 => 
    rw [advance_of_settle1 hp, advance_of_settle1 (s := s.withSide x) hp]
    exact .onComplete h fun w => .goTo (h.leaveLoop rfl)
  | prime =>
    have e (u : State) (hu : u.phase = .prime) : advance u = u.writeCommand 0x10 0x01 (State.goTo .settle2) := by
      rw [advance_of_prime hu]
      rfl
    rw [e s hp, e (s.withSide x) hp]
    exact .writeCommand h fun u hu => .goTo (hu ▸ (h.setFrame _).leaveLoop rfl)
  | settle2 =>
    rw [advance_of_settle2 hp, advance_of_settle2 (s := s.withSide x) hp]
    exact .onComplete h fun w => .complete h
  | write =>
    rw [advance_of_write hp, advance_of_write (s := s.withSide x) hp]
    exact stepWrite_follows h hp
  | read =>
    rw [advance_of_read hp, advance_of_read (s := s.withSide x) hp]
    exact stepRead_follows h hp
  | check =>
    rw [advance_of_check hp, advance_of_check (s := s.withSide x) hp]
    rw [hp] at h
    exact stepCheck_follows h
  | backoff =>
    rw [advance_of_backoff hp, advance_of_backoff (s := s.withSide x) hp, stepBackoff_eq, stepBackoff_eq]
    exact .onComplete h fun w => .goTo (h.stayInLoop (by rw [hp]; rfl) (by simp [hp]) (by simp))
  | decode =>
    rw [advance_of_decode hp, advance_of_decode (s := s.withSide x) hp]
    rw [hp] at h
    exact stepDecode_follows h

end

end Sys2Proof.Machine

namespace Sys2Proof.Machine

/-! ## Old scratch contents and `debug` have no effect -/

/-- Latching the command (10_state.md R26) makes `cur_op` agree and leaves every other register as it was. -/
theorem Sim.latchOp (a b : Side) (op : Op) : Sim a b .idle { a with curOp := op } { b with curOp := op } where
  crc := .inr ⟨rfl, rfl⟩
  frame := .inr ⟨rfl, rfl⟩
  buf _ _ := .inr ⟨rfl, rfl⟩
  bufLen := .inr ⟨rfl, rfl⟩
  curOp := rfl
  curOpcode := .inr ⟨rfl, rfl⟩
  curParam := .inr ⟨rfl, rfl⟩
  curLen := .inr ⟨rfl, rfl⟩
  debug := .inr ⟨rfl, rfl⟩
  sends := nofun
  reads := nofun
  holds := nofun

theorem startWrite_follows {op : Op} (h : op.replyKind = .none) (opcode param : Byte) (s : State) (x : Side) :
    Follows s.side x (startWrite op opcode param s) (startWrite op opcode param (s.withSide x)) :=
  ⟨{ x with curOp := op, curOpcode := opcode, curParam := param }, rfl,
    { Sim.latchOp s.side x op with
      curOpcode := .inl rfl
      curParam := .inl rfl
      sends := fun _ => ⟨rfl, rfl⟩
      reads := fun _ hk => absurd h (hk rfl)
      holds := nofun }⟩

theorem startRead_follows (op : Op) (opcode : Byte) (n : BitVec 6) (s : State) (x : Side) :
    Follows s.side x (startRead op opcode n s) (startRead op opcode n (s.withSide x)) :=
  ⟨{ x with curOp := op, curOpcode := opcode, curParam := 0, curLen := n }, rfl,
    { Sim.latchOp s.side x op with
      curOpcode := .inl rfl
      curParam := .inl rfl
      curLen := .inl rfl
      sends := fun _ => ⟨rfl, rfl⟩
      reads := fun _ _ => rfl
      holds := nofun }⟩

theorem startBegin_follows (s : State) (x : Side) :
    Follows s.side x (startBegin s) (startBegin (s.withSide x)) :=
  ⟨{ x with curOp := .begin, curOpcode := Config.opInit, curParam := Config.paramInit }, rfl,
    { Sim.latchOp s.side x .begin with
      curOpcode := .inl rfl
      curParam := .inl rfl
      sends := nofun
      reads := nofun
      holds := nofun }⟩

theorem load_setDebug_follows (enabled : Bool) (s : State) (x : Side) :
    Follows s.side x (load (.setDebug enabled) s) (load (.setDebug enabled) (s.withSide x)) :=
  ⟨{ x with curOp := .setDebug, debug := enabled }, rfl,
    { Sim.latchOp s.side x .setDebug with
      debug := .inl rfl
      sends := nofun
      reads := nofun
      holds := nofun }⟩

theorem load_follows (i : Instr) (s : State) (x : Side) : Follows s.side x (load i s) (load i (s.withSide x)) := by
  cases i with
  | init | fanControl | setFan | write => exact startWrite_follows rfl _ _ s x
  | begin => exact startBegin_follows s x
  | setDebug enabled => exact load_setDebug_follows enabled s x
  | readCounts | readConc | readVref | readStatus | update | getReferenceVoltage | getStatus | checksummedRead
  | plainRead => exact startRead_follows _ _ _ s x

theorem startOf_follows (i : Instr) (s : State) (x : Side) :
    Follows s.side x (startOf i s) (startOf i (s.withSide x)) := by
  rw [startOf, startOf]
  split
  · exact load_follows i s.freeResults x
  · exact load_follows i s x

theorem advanceN_follows {a b : Side} (n : Nat) {s t : State} (h : Follows a b s t) :
    Follows a b (advanceN n s) (advanceN n t) := by
  induction n generalizing s t with
  | zero => exact h
  | succ n ih =>
    obtain ⟨x, rfl, hx⟩ := h
    exact ih (advance_follows hx)

/-- A run follows the run of the same command from other contents of the scratch registers and `debug`. -/
theorem runCommand_follows (i : Instr) (s : State) (x : Side) :
    Follows s.side x (runCommand (startOf i s)) (runCommand (startOf i (s.withSide x))) := by
  have hs := startOf_follows i s x
  have hw : (startOf i (s.withSide x)).world = (startOf i s).world := by
    obtain ⟨y, e, -⟩ := hs
    rw [e]
    rfl
  rw [runCommand, runCommand, hw]
  exact advanceN_follows _ hs

theorem exec_follows {i : Instr} {s t : State} (x : Side) (hp : s.phase = .idle) (h : exec i s = .next t) :
    ∃ t', exec i (s.withSide x) = .next t' ∧ Follows s.side x t t' := by
  obtain ⟨hn, -⟩ | ⟨ha, rfl⟩ := exec_next h
  · exact absurd hp hn
  · exact ⟨_, exec_of_accepts (s := s.withSide x) ha, runCommand_follows i s x⟩

/-- Settles O55: acceptance loads what the command reads, so the two runs go through the same transitions. -/
theorem scratchIsNotRetained : Obligations.ScratchIsNotRetained := by
  intro i s t c f b n op o p m hp h
  obtain ⟨t', he, y, rfl, hy⟩ := exec_follows ⟨c, f, b, n, op, o, p, m, s.debug⟩ hp h
  have hd : y.debug = t.debug := AgreeOrKept.eq hy.debug
  refine ⟨_, he, ?_, hy.crc, hy.frame, fun k => hy.buf k k.isLt, hy.bufLen, hy.curOp, hy.curOpcode, hy.curParam,
    hy.curLen⟩
  simp only [State.withSide, hd]

/-- The registers of two runs that start with the same scratch contents differ in `debug` only. -/
theorem Sim.eq_of_same_scratch {a v w : Side} {p : Phase} {d : Bool} (h : Sim a { a with debug := d } p v w) :
    w = { v with debug := w.debug } := by
  obtain ⟨hc, hf, hb, hn, hop, ho, hpar, hl, -, -, -, -⟩ := h
  have hb' : w.buf = v.buf := Vector.ext fun k hk => (hb k hk).eq
  simp only [← hc.eq, ← hf.eq, ← hb', ← hn.eq, ← hop, ← ho.eq, ← hpar.eq, ← hl.eq]

/-- Settles O54: the two runs have the same scratch contents throughout, and neither writes `debug`. -/
theorem debugAffectsNothing : Obligations.DebugAffectsNothing := by
  intro i s t d hi h
  by_cases hp : s.phase = .idle
  · obtain ⟨t', he, y, rfl, hy⟩ := exec_follows { s.side with debug := d } hp h
    have hd : y.debug = d := exec_debug hi he
    rw [show { s with debug := d } = s.withSide { s.side with debug := d } from rfl, he, hy.eq_of_same_scratch, hd]
    rfl
  · rw [exec_of_not_idle i hp] at h
    cases h
    exact exec_of_not_idle i (s := { s with debug := d }) hp

end Sys2Proof.Machine

namespace Sys2Proof.Machine

/-! ## The invariant of the block, kept by every step -/

/-- An instruction keeps the invariant: acceptance sets it up, and every transition of the run keeps it. -/
theorem exec_inv {i : Instr} {s t : State} (hi : s.Inv) (h : exec i s = .next t) : t.Inv := by
  obtain ⟨-, rfl⟩ | ⟨ha, rfl⟩ := exec_next h
  · exact hi
  · exact advanceN_induction (fun _ hu => advance_inv hu) _ (startOf_inv hi.traceOk ha)

/-- Settles O49: a reset and the end of `DONE` leave the block idle, and both an accepted instruction and a
transition keep the invariant. -/
theorem stepKeepsInv : Obligations.StepKeepsInv := by
  intro s t hi h
  obtain ⟨-, rfl⟩ | ⟨-, ⟨-, -, rfl⟩ | ⟨-, c, i, -, -, he⟩ | ⟨-, rfl⟩ | ⟨-, rfl⟩⟩ := step_next h
  · exact inv_of_atRest traceOk_nil (.inl rfl)
  · exact hi
  · exact exec_inv (s := s.takePending) hi.takePending he
  · exact inv_of_atRest hi.traceOk (.inl rfl)
  · exact advance_inv hi

end Sys2Proof.Machine

namespace Sys2Proof.Machine

/-! ## The request port is not seen by a transition -/

/-- The same state with other contents of the request port. -/
def State.withPending (p : Option Code) (s : State) : State := { s with pending := p }

@[simp] theorem State.withPending_curOp (p : Option Code) (s : State) : (s.withPending p).curOp = s.curOp := rfl

/-- An operation does not see the request port, and leaves it as it is. -/
def IgnoresPort (k : State → State) : Prop := ∀ p s, k (s.withPending p) = (k s).withPending p

theorem ignoresPort_complete : IgnoresPort State.complete := fun _ _ => rfl

theorem IgnoresPort.ite {c : State → Prop} [DecidablePred c] {k l : State → State}
    (hc : ∀ p s, c (s.withPending p) ↔ c s) (hk : IgnoresPort k) (hl : IgnoresPort l) :
    IgnoresPort fun s => if c s then k s else l s := by
  intro p s
  by_cases h : c s
  · simp only [hc, h, if_true, hk p s]
  · simp only [hc, h, if_false, hl p s]

theorem IgnoresPort.onComplete {k : State → State} (hk : IgnoresPort k) : IgnoresPort (State.onComplete k) := by
  intro p s
  have hw : (s.withPending p).world = s.world := rfl
  unfold State.onComplete
  rw [hw]
  cases s.world.complete with
  | none => rfl
  | some w => exact hk p (s.setWorld w)

theorem IgnoresPort.readReply {k : State → State} (hk : IgnoresPort k) (n : BitVec 6) :
    IgnoresPort (State.readReply n k) := by
  intro p s
  cases ha : s.world.answer with
  | none => rw [State.readReply_of_hang ha, State.readReply_of_hang (s := s.withPending p) ha]
  | some a =>
    rw [State.readReply_of_answer ha, State.readReply_of_answer (s := s.withPending p) ha]
    exact hk p (((s.setWorld a.2).setReply a.1 n).record (received n.toNat a.1))

theorem ignoresPort_afterWrite : IgnoresPort afterWrite := by
  intro p s
  by_cases hk : s.curOp.replyKind = .none
  · rw [afterWrite_of_none hk, afterWrite_of_none (s := s.withPending p) hk, State.withPending_curOp]
    split
    · exact ignoresPort_complete p (s.setResOk true)
    · exact ignoresPort_complete p s
  · rw [afterWrite_of_reads hk, afterWrite_of_reads (s := s.withPending p) hk]
    rfl

theorem ignoresPort_afterRead : IgnoresPort afterRead := by
  intro p s
  by_cases hk : s.curOp.replyKind = .plain
  · rw [afterRead_of_plain hk, afterRead_of_plain (s := s.withPending p) hk]
    exact ignoresPort_complete p s.setResBuf
  · rw [afterRead_of_not_plain hk, afterRead_of_not_plain (s := s.withPending p) hk]
    rfl

theorem ignoresPort_stepCheck : IgnoresPort stepCheck :=
  .ite (fun _ _ => .rfl) (.ite (fun _ _ => .rfl) (fun _ _ => rfl) (fun _ _ => rfl)) (fun _ _ => rfl)

theorem ignoresPort_stepDecode : IgnoresPort stepDecode := by
  intro p s
  unfold stepDecode
  rw [State.withPending_curOp]
  cases s.curOp with
  | update =>
    exact IgnoresPort.ite (c := fun s => s.curOpcode = Config.opReadCounts) (k := decodeUpdateCounts)
      (l := fun s => (s.setConc (decodeConc s.reply)).complete) (fun _ _ => .rfl) (fun _ _ => rfl) (fun _ _ => rfl) p s
  | _ => rfl

/-- No transition of the phase table looks at the request port (20_memory.md R56). -/
theorem ignoresPort_advance : IgnoresPort advance := by
  intro p s
  cases hp : s.phase with
  | idle => rw [advance_of_idle hp, advance_of_idle (s := s.withPending p) hp]
  | done => rw [advance_of_done hp, advance_of_done (s := s.withPending p) hp]
  | link =>
    rw [advance_of_link hp, advance_of_link (s := s.withPending p) hp]
    exact IgnoresPort.onComplete (fun _ _ => rfl) p s
  | settle1 =>
    rw [advance_of_settle1 hp, advance_of_settle1 (s := s.withPending p) hp]
    exact IgnoresPort.onComplete (fun _ _ => rfl) p s
  | prime =>
    rw [advance_of_prime hp, advance_of_prime (s := s.withPending p) hp]
    exact IgnoresPort.onComplete (fun _ _ => rfl) p (s.setFrame _)
  | settle2 =>
    rw [advance_of_settle2 hp, advance_of_settle2 (s := s.withPending p) hp]
    exact IgnoresPort.onComplete (fun _ _ => rfl) p s
  | write =>
    rw [advance_of_write hp, advance_of_write (s := s.withPending p) hp, stepWrite_eq, stepWrite_eq]
    exact IgnoresPort.onComplete (fun p u => ignoresPort_afterWrite p (u.record _)) p (s.setFrame _)
  | read =>
    rw [advance_of_read hp, advance_of_read (s := s.withPending p) hp]
    exact ignoresPort_afterRead.readReply s.curLen p s
  | check =>
    rw [advance_of_check hp, advance_of_check (s := s.withPending p) hp]
    exact ignoresPort_stepCheck p s
  | backoff =>
    rw [advance_of_backoff hp, advance_of_backoff (s := s.withPending p) hp, stepBackoff_eq, stepBackoff_eq]
    exact IgnoresPort.onComplete (fun _ _ => rfl) p s
  | decode =>
    rw [advance_of_decode hp, advance_of_decode (s := s.withPending p) hp]
    exact ignoresPort_stepDecode p s

theorem step_of_resetRequest {s : State} (h : s.resetRequest = true) : step s = .next s.takeReset := if_pos h

theorem step_of_done {s : State} (hr : s.resetRequest = false) (hp : s.phase = .done) :
    step s = .next s.leaveDone := by
  simp [step, hr, hp]

/-- Settles O35: the step of a block that is not idle is a reset, the end of `DONE` or a transition, and none of these
looks at the request port. -/
theorem requestPortIsNotSeenWhileBusy : Obligations.RequestPortIsNotSeenWhileBusy := by
  intro s t p hp h
  obtain ⟨hr, rfl⟩ | ⟨hr, ⟨hi, -⟩ | ⟨hi, -⟩ | ⟨hd, rfl⟩ | ⟨hb, rfl⟩⟩ := step_next h
  · exact step_of_resetRequest (s := s.withPending p) hr
  · exact absurd hi hp
  · exact absurd hi hp
  · exact step_of_done (s := s.withPending p) hr hd
  · exact (step_of_busy (s := s.withPending p) hr hb).trans (congrArg _ (ignoresPort_advance p s))

end Sys2Proof.Machine

namespace Sys2Proof

/-! ## Request words and frame images -/

/-- Bit 0 of a byte says whether it is odd: the operand of SET_FAN and SET_DEBUG (30_encoding.md R72). -/
theorem getElem_zero_eq_odd (b : Byte) : b[0] = decide (b.toNat % 2 = 1) := by
  rw [← BitVec.getLsbD_eq_getElem, ← BitVec.testBit_toNat, Nat.testBit_zero]

/-- Settles O3: the fields of a request word are read back from it, and `op` selects the row of the table. -/
theorem requestWordFields : Obligations.RequestWordFields := by
  intro a b
  have hw (op : BitVec 4) : op ++ a ++ b = reqWord op a b := rfl
  simp [hw, decodeRequest, getElem_zero_eq_odd]

/-- Settles O4: each word is evaluated. -/
theorem writtenOutWordsDecode : Obligations.WrittenOutWordsDecode :=
  ⟨rfl, rfl, rfl, rfl, rfl, rfl, rfl, rfl, rfl⟩

/-- Bit 0 of a Boolean's byte is the Boolean (30_encoding.md R67). -/
@[simp] theorem boolByte_getElem_zero (b : Bool) : (boolByte b)[0] = b := by cases b <;> rfl

/-- Settles O1: a frame image is one of seven words, and the fields of a request word are read back from it. -/
theorem decodeOfEncodeIsTheInstruction : Obligations.DecodeOfEncodeIsTheInstruction := by
  intro i
  cases i with
  | init | readCounts | readConc | readVref | readStatus => rfl
  | fanControl p => cases p <;> rfl
  | begin | update | getReferenceVoltage | getStatus => rfl
  | setFan | setDebug => simp [encode, decode, decodeRequest]
  | checksummedRead | plainRead | write => simp [encode, decode, decodeRequest]

/-- A frame image is its three fields, one after the other (30_encoding.md R61). -/
theorem frame_eq_fields (w : BitVec 64) : w = (frameOpcode w ++ frameParam w) ++ framePad w := by
  have hhead : frameOpcode w ++ frameParam w = w.extractLsb' 48 16 :=
    BitVec.extractLsb'_append_extractLsb'_eq_extractLsb' rfl
  have hall : w.extractLsb' 48 16 ++ framePad w = w.extractLsb' 0 64 :=
    BitVec.extractLsb'_append_extractLsb'_eq_extractLsb' rfl
  rw [hhead, hall, BitVec.extractLsb'_eq_self]

/-- The image that decodes is the one with zero padding whose opcode and parameter are those of the instruction's row
(R66). -/
theorem decodeFrame_eq_ok {w : BitVec 64} {i : Instr} (h : decodeFrame w = .ok i) :
    framePad w = 0 ∧ encode i = .frame (frameImage (frameOpcode w) (frameParam w)) := by
  have row {j : Instr} {o p : Byte} (hj : encode j = .frame (frameImage o p))
      (hw : frameOpcode w = o ∧ frameParam w = p) (h : Except.ok (ε := DecodeError) j = .ok i) :
      encode i = .frame (frameImage (frameOpcode w) (frameParam w)) := by
    obtain ⟨rfl, rfl⟩ := hw
    cases h
    exact hj
  unfold decodeFrame at h
  split_ifs at h with hpad hinit hcounts hconc hvref hstatus hoff hon
  all_goals refine ⟨not_not.1 hpad, ?_⟩
  · exact row rfl hinit h
  · exact row rfl hcounts h
  · exact row rfl hconc h
  · exact row rfl hvref h
  · exact row rfl hstatus h
  · exact row rfl hoff h
  · exact row rfl hon h

/-- Settles O2: the fields of an image that decodes are those of the encoder's image, and an image is its fields. -/
theorem onlyTheSixFramesDecode : Obligations.OnlyTheSixFramesDecode := by
  intro w i h
  obtain ⟨hpad, he⟩ := decodeFrame_eq_ok h
  have hw := frame_eq_fields w
  rw [hpad] at hw
  rw [he, frameImage, ← hw]

end Sys2Proof

namespace Sys2Proof.Machine

/-! ## The trailer of a checksummed reply -/

/-- A 16-bit value is two bytes exactly where they are its high and its low byte. -/
theorem eq_append_iff_bytes (c : CrcWord) (hi lo : Byte) :
    c = hi ++ lo ↔ hi = c.extractLsb' 8 8 ∧ lo = c.extractLsb' 0 8 := by
  constructor
  · rintro rfl
    exact ⟨BitVec.extractLsb'_append_eq_left.symm, BitVec.extractLsb'_append_eq_right.symm⟩
  · rintro ⟨rfl, rfl⟩
    have hbytes : c.extractLsb' 8 8 ++ c.extractLsb' 0 8 = c.extractLsb' 0 16 :=
      BitVec.extractLsb'_append_extractLsb'_eq_extractLsb' rfl
    rw [hbytes, BitVec.extractLsb'_eq_self]

/-- The payload of a sequence with two bytes more than `p` is `p`, its trailer the two bytes (30_encoding.md R76). -/
theorem payload_append_pair (p : List Byte) (hi lo : Byte) : payload (p ++ [hi, lo]) (p ++ [hi, lo]).length = p := by
  simp [payload, Config.trailerLen]

theorem trailer_append_pair (p : List Byte) (hi lo : Byte) :
    trailer (p ++ [hi, lo]) (p ++ [hi, lo]).length = hi ++ lo := by
  rw [trailer, be16_eq, byteAt_of_getElem? (b := hi), byteAt_of_getElem? (b := lo)] <;> simp [Config.trailerLen]

theorem checksumValid_append_pair (p : List Byte) (hi lo : Byte) :
    checksumValid (p ++ [hi, lo]) ↔ crc16 p = hi ++ lo := by
  rw [checksumValid, payload_append_pair, trailer_append_pair]
  simp

/-- Settles O11: a valid trailer is the checksum of the payload, so its two bytes are the checksum's. -/
theorem oneValidTrailerPerPayload : Obligations.OneValidTrailerPerPayload := by
  intro p t ht
  obtain ⟨hi, lo, rfl⟩ := List.length_eq_two.1 ht
  rw [checksumValid_append_pair, eq_append_iff_bytes, List.cons.injEq, List.cons.injEq]
  simp

end Sys2Proof.Machine

namespace Sys2Proof.Machine

/-! ## The step of an idle block, and of one that presents results -/

/-- Settles O34. -/
theorem busyRequestChangesNothing : Obligations.BusyRequestChangesNothing :=
  fun i _ hp => exec_of_not_idle i hp

theorem step_of_idle {s : State} (hr : s.resetRequest = false) (hp : s.phase = .idle) : step s = runPending s := by
  simp [step, hr, hp]

theorem runPending_of_none {s : State} (h : s.pending = none) : runPending s = .next s := by
  simp [runPending, h]

theorem runPending_of_ok {s : State} {c : Code} {i : Instr} (h : s.pending = some c) (hd : decode c = .ok i) :
    runPending s = exec i s.takePending := by
  simp [runPending, h, hd]

/-- Settles O36: an idle block takes the word on its port, and the word decodes. -/
theorem stepRunsTheDecodedInstruction : Obligations.StepRunsTheDecodedInstruction := by
  intro s c i hr hp hc hd
  rw [step_of_idle hr hp, runPending_of_ok hc hd]
  rfl

/-- A table word that is read as an instruction is a word of one of the two formats, which decodes. -/
theorem decodeTableWord_eq_some {nbits w : Nat} {i : Instr} (h : decodeTableWord nbits w = some i) :
    ∃ c, codeOfTableWord nbits w = some c ∧ decode c = .ok i := by
  unfold decodeTableWord at h
  split at h
  · cases h
  · rename_i c hc
    split at h
    · rename_i j hj
      cases h
      exact ⟨c, hc, hj⟩
    · cases h

/-- Settles O37: the placed word stands on the port of an idle block, whose step runs it. -/
theorem placedWordRunsNext : Obligations.PlacedWordRunsNext := by
  intro s nbits w i hr hp h
  obtain ⟨c, hc, hd⟩ := decodeTableWord_eq_some h
  have hstep := stepRunsTheDecodedInstruction (s.withFetchWord nbits w) c i rfl rfl hc hd
  have hsame : { s.withFetchWord nbits w with pending := none } = { s with pending := none } := by
    simp only [State.withFetchWord, State.placeTableWord, hp, hr]
  rwa [hsame] at hstep

/-- Settles O42. -/
theorem idleWaitsAndDoneReturnsToIdle : Obligations.IdleWaitsAndDoneReturnsToIdle :=
  fun _ hr => ⟨fun hp hn => by rw [step_of_idle hr hp, runPending_of_none hn], step_of_done hr⟩

/-! ## `SET_FAN` goes through the transitions of `WRITE` -/

/-- The command in execution is `WRITE`, about to send its frame or complete. -/
def Writing (s : State) : Prop := s.curOp = .write ∧ (s.phase = .write ∨ s.phase = .done)

theorem Writing.advance {s : State} (h : Writing s) : Writing (advance s) := by
  obtain ⟨hop, hp | hp⟩ := h
  · refine ⟨by rw [(advance_frame s).curOp, hop], ?_⟩
    by_cases hh : s.Held
    · obtain e | ⟨f, e⟩ := advance_of_held hh <;> rw [e]
      · exact .inl hp
      · exact .inl hp
    · rw [advance_write hh hp, afterWrite_phase]
      simp [State.afterPrimitive, hop, Op.replyKind, Op.isWire]
  · rw [advance_of_done hp]
    exact ⟨hop, .inr hp⟩

theorem afterWrite_latchOp_setFan {s : State} (h : s.curOp = .write) :
    afterWrite (s.latchOp .setFan) = (afterWrite s).latchOp .setFan := by
  have hset : afterWrite (s.latchOp .setFan) = ((s.latchOp .setFan).setResOk true).goTo .done := rfl
  have hwrite : afterWrite s = (s.setResOk true).goTo .done := by
    rw [afterWrite_of_none (by rw [h]; rfl), complete_eq]
    simp [h, Op.reportsSuccess, Op.isWire]
  rw [hset, hwrite]
  rfl

/-- Waiting for a primitive does not look at `cur_op`. -/
theorem onComplete_latchOp {k : State → State} {op : Op} {s : State}
    (hk : ∀ w, k ((s.setWorld w).latchOp op) = (k (s.setWorld w)).latchOp op) :
    (s.latchOp op).onComplete k = (s.onComplete k).latchOp op := by
  unfold State.onComplete
  rw [State.latchOp_world]
  cases s.world.complete with
  | none => rfl
  | some w => exact hk w

/-- The transition of `WRITE` does not tell it from `SET_FAN` (30_encoding.md R75). -/
theorem advance_latchOp_setFan {s : State} (h : Writing s) :
    advance (s.latchOp .setFan) = (advance s).latchOp .setFan := by
  obtain ⟨hop, hp | hp⟩ := h
  · rw [advance_of_write hp, advance_of_write (s := s.latchOp .setFan) hp, stepWrite_eq, stepWrite_eq]
    exact onComplete_latchOp (op := .setFan) (s := s.setFrame (commandFrame s.curOpcode s.curParam))
      fun w => afterWrite_latchOp_setFan (s := ((s.setFrame (commandFrame s.curOpcode s.curParam)).setWorld w).record
        (sent s.curOpcode s.curParam)) hop
  · rw [advance_of_done hp, advance_of_done (s := s.latchOp .setFan) hp]

theorem advanceN_latchOp_setFan (n : Nat) {s : State} (h : Writing s) :
    advanceN n (s.latchOp .setFan) = (advanceN n s).latchOp .setFan := by
  induction n generalizing s with
  | zero => rfl
  | succ n ih =>
    rw [advanceN, advanceN, advance_latchOp_setFan h, ih h.advance]

/-- Settles O56: the two commands start alike but for `cur_op`, and every transition of the run keeps it so. -/
theorem setFanIsAWrite : Obligations.SetFanIsAWrite := by
  intro s t on hp h
  obtain ⟨hn, -⟩ | ⟨ha, rfl⟩ := exec_next h
  · exact absurd hp hn
  · have hstart : startOf (.setFan on) s = (startOf (.write 0x2B (boolByte on)) s).latchOp .setFan := rfl
    have hrun := advanceN_latchOp_setFan (s := startOf (.write 0x2B (boolByte on)) s)
      (transitionBudget (startOf (.write 0x2B (boolByte on)) s).world) ⟨rfl, .inl rfl⟩
    rw [exec_of_accepts (i := .setFan on) ha, hstart]
    exact congrArg _ hrun

end Sys2Proof.Machine

namespace Sys2Proof.Machine

/-! ## What the peripheral did for a command that has completed -/

theorem State.Held.setFrame {s : State} (h : s.Held) (f : Vector Byte Config.frameLen) : (s.setFrame f).Held := h

theorem State.Held.phase_ne_done {s : State} (h : s.Held) : s.phase ≠ .done := by
  rintro hp
  simp [State.Held, hp] at h

/-- A held block does not leave its phase (60_exceptions.md R174). -/
theorem advanceN_of_held (n : Nat) {s : State} (h : s.Held) : (advanceN n s).Held := by
  refine advanceN_induction (fun u hu => ?_) n h
  obtain e | ⟨f, e⟩ := advance_of_held hu <;> rw [e]
  · exact hu
  · exact hu.setFrame f

theorem advanceN_done_of_le {m n : Nat} {s : State} (h : (advanceN m s).phase = .done) (hmn : m ≤ n) :
    (advanceN n s).phase = .done := by
  rw [advanceN_completed hmn rfl (.inl h), h]

/-- A run that completes is nowhere held on its way. -/
theorem not_held_of_done {m n : Nat} {s : State} (h : (advanceN n s).phase = .done) : ¬ (advanceN m s).Held := by
  intro hh
  have hdone : (advanceN (m + n) s).phase = .done := advanceN_done_of_le h (by omega)
  rw [advanceN_add] at hdone
  exact (advanceN_of_held n hh).phase_ne_done hdone

theorem World.allows_of_afterCompletions {j k : Nat} {w : World} (hj : w.allows j)
    (h : (w.afterCompletions j).allows k) : w.allows (j + k) := by
  intro n hn
  have h1 := hj n hn
  have h2 := h (n - j) (by simp [World.afterCompletions, hn])
  omega

/-- What is allowed depends on the completions alone. -/
theorem World.allows_congr {k : Nat} {w w' : World} (h : w'.completions = w.completions) :
    w'.allows k ↔ w.allows k := by
  rw [World.allows, World.allows, h]

theorem World.gives_nil {n : Nat} {w w' : World} {good : Reply} (ha : w.answer = some (good, w'))
    (hv : ReplyValid n good) : w.Gives n [] good w' :=
  ⟨by simp [World.draw_one, ha], by simp, hv⟩

theorem World.gives_cons {n : Nat} {w w₁ w' : World} {r good : Reply} {bad : List Reply}
    (ha : w.answer = some (r, w₁)) (hr : ¬ ReplyValid n r) (h : w₁.Gives n bad good w') :
    w.Gives n (r :: bad) good w' := by
  obtain ⟨hd, hb, hv⟩ := h
  refine ⟨?_, by simpa [hr] using hb, hv⟩
  rw [List.length_cons, World.draw, ha]
  simp [hd]

/-- What the peripheral gives does not depend on the completions. -/
theorem World.gives_of_afterCompletions {k n : Nat} {w w' : World} {bad : List Reply} {good : Reply}
    (h : (w.afterCompletions k).Gives n bad good w') : ∃ w'', w.Gives n bad good w'' := by
  obtain ⟨hd, hb, hv⟩ := h
  rw [World.draw_afterCompletions, Option.map_eq_some_iff] at hd
  obtain ⟨⟨rs, w''⟩, hdraw, he⟩ := hd
  cases he
  exact ⟨w'', hdraw, hb, hv⟩

section
variable {n : Nat} {s : State} (hp : s.phase = .write) (hk : s.curOp.replyKind = .checked)
  (hd : (advanceN n s).phase = .done)
include hp hk hd

/-- A checksummed read that completes has sent its frame and got a reply. -/
theorem answer_of_done : s.world.allows 1 ∧ ∃ r w, s.world.answer = some (r, w) := by
  have hs : ¬ s.Held := not_held_of_done (m := 0) hd
  have hread := advance_write hs hp
  rw [afterWrite_of_reads (by simp [State.afterPrimitive, hk])] at hread
  have hh : ¬ (advance s).Held := not_held_of_done (m := 1) hd
  obtain ⟨r, w, ha⟩ := answer_of_not_held (by rw [hread, State.goTo_phase]) hh
  have hworld : (advance s).world = s.world.afterCompletions 1 := by rw [hread]; rfl
  rw [hworld, World.answer_afterCompletions, Option.map_eq_some_iff] at ha
  obtain ⟨p, hans, -⟩ := ha
  exact ⟨allows_of_not_held (by simp [hp]) hs, p.1, p.2, hans⟩

/-- A checksummed read that completes in spite of an invalid reply has waited after it. -/
theorem allows_two_of_done {r : Reply} {w : World} (h2 : 2 ≤ s.curLen.toNat) (h32 : s.curLen.toNat ≤ 32)
    (ha : s.world.answer = some (r, w)) (hr : ¬ ReplyValid s.curLen.toNat r) : s.world.allows 2 := by
  obtain ⟨h1, -⟩ := answer_of_done hp hk hd
  have hm : (s.inCheck r w).matchFlag = false := by
    rw [Bool.eq_false_iff]
    exact mt (State.inCheck_matchFlag h2 h32).1 hr
  have hh : ¬ (advanceN (2 + 1) s).Held := not_held_of_done hd
  rw [advanceN_add, advanceN_toCheck (j := 0) hp hk h1 ha, advanceN, advanceN, advance_of_check rfl,
    stepCheck_of_mismatch hm] at hh
  have hw : (w.afterCompletions 1).allows 1 := allows_of_not_held (by simp) hh
  have hc := (World.answer_eq_some ha).2
  exact (World.allows_congr hc).1 (World.allows_of_afterCompletions ((World.allows_congr hc).2 h1) hw)

end

/-- A checksummed read that completes was given a valid reply after some that are not, and its writes and waits have
completed (42_checked_read.md R122). -/
theorem gives_of_done {n : Nat} {s : State} (hp : s.phase = .write) (hk : s.curOp.replyKind = .checked)
    (h2 : 2 ≤ s.curLen.toNat) (h32 : s.curLen.toNat ≤ 32) (hd : (advanceN n s).phase = .done) :
    ∃ bad good w, s.world.Gives s.curLen.toNat bad good w ∧ s.world.allows (2 * bad.length + 1) := by
  induction n generalizing s with
  | zero =>
    rw [advanceN, hp] at hd
    cases hd
  | succ n ih =>
    obtain ⟨h1, r, w, ha⟩ := answer_of_done hp hk hd
    by_cases hr : ReplyValid s.curLen.toNat r
    · exact ⟨[], r, w, World.gives_nil ha hr, h1⟩
    · have hwait := allows_two_of_done hp hk hd h2 h32 ha hr
      have hc := (World.answer_eq_some ha).2
      have hd' : (advanceN (4 + n) s).phase = .done := advanceN_done_of_le hd (by omega)
      rw [advanceN_add, advanceN_failedPass (j := 0) hp hk h2 h32 hwait ha hr] at hd'
      obtain ⟨bad, good, w', hg, hallow⟩ := ih (s := s.afterFailedPass r w) rfl hk h2 h32 hd'
      obtain ⟨w'', hg'⟩ := World.gives_of_afterCompletions hg
      have htotal := World.allows_of_afterCompletions ((World.allows_congr hc).2 hwait) hallow
      refine ⟨r :: bad, good, w'', World.gives_cons ha hr hg', ?_⟩
      exact World.allows_mono ((World.allows_congr hc).1 htotal) (by rw [List.length_cons]; omega)

end Sys2Proof.Machine

namespace Sys2Proof.Machine

/-! ## `CHECKSUMMED_READ` that completes -/

/-- The state in which `CHECKSUMMED_READ` presents its reply (42_checked_read.md R121). -/
def State.presentReply (opcode : Byte) (n : BitVec 6) (bad : List Reply) (good : Reply) (w : World) (s : State) :
    State :=
  { s.afterRead .checksummedRead opcode n bad good w with
    resBuf := overwrite s.resBuf good n.toNat, resLen := n, phase := .done }

theorem runCommand_checksummedRead {s : State} {opcode : Byte} {n : BitVec 6} {bad : List Reply} {good : Reply}
    {w : World} (h2 : 2 ≤ n.toNat) (h32 : n.toNat ≤ 32) (hg : s.world.Gives n.toNat bad good w)
    (ha : s.world.allows (2 * bad.length + 1)) :
    runCommand (startRead .checksummedRead opcode n s) = s.presentReply opcode n bad good w := by
  have hbudget : 4 * bad.length + 4 ≤ transitionBudget s.world := budget_of_gives hg
  have hrun : advanceN (4 * bad.length + 3) (startRead .checksummedRead opcode n s) =
      s.presentReply opcode n bad good w := by
    have hres := overwrite_of_overwrite s.resBuf s.buf good n.toNat
    rw [advanceN_startRead rfl h2 h32 hg ha, afterMatch, if_pos (by rfl)]
    simp only [State.afterRead, State.setResBuf, State.presentReply, State.complete, State.goTo, Op.isWire, hres]
    rfl
  exact advanceN_completed (Nat.le_trans (by omega) hbudget) hrun (.inl rfl)

/-- What the completion of `CHECKSUMMED_READ` in an idle block says: the block was ready, the length in the domain, a
valid reply came after some invalid ones, and the state presents that reply. -/
structure ChecksummedReadDone (s t : State) (opcode len : Byte) (bad : List Reply) (good : Reply) (w : World) :
    Prop where
  ready : s.ready = true
  lo : 2 ≤ (latchedLen len).toNat
  hi : (latchedLen len).toNat ≤ 32
  gives : s.world.Gives (latchedLen len).toNat bad good w
  allows : s.world.allows (2 * bad.length + 1)
  eq : t = s.freeResults.presentReply opcode (latchedLen len) bad good w

theorem exec_checksummedRead_done {s t : State} {opcode len : Byte} (hp : s.phase = .idle)
    (h : exec (.checksummedRead opcode len) s = .next t) (hd : t.done = true) :
    ∃ bad good w, ChecksummedReadDone s t opcode len bad good w := by
  obtain ⟨hn, -⟩ | ⟨⟨-, hr, hl⟩, rfl⟩ := exec_next h
  · exact absurd hp hn
  obtain ⟨h2, h32⟩ := of_decide_eq_true hl
  rw [← latchedLen_toNat h32] at h2 h32
  obtain ⟨bad, good, w, hg, ha⟩ := gives_of_done
    (s := startRead .checksummedRead opcode (latchedLen len) s.freeResults) rfl rfl h2 h32 (of_decide_eq_true hd)
  exact ⟨bad, good, w, hr rfl, h2, h32, hg, ha, runCommand_checksummedRead (s := s.freeResults) h2 h32 hg ha⟩

/-- The bytes returned are those of the valid reply. -/
theorem ChecksummedReadDone.resBuf {s t : State} {opcode len : Byte} {bad : List Reply} {good : Reply} {w : World}
    (h : ChecksummedReadDone s t opcode len bad good w) :
    firstBytes t.resBuf (latchedLen len).toNat = firstBytes good (latchedLen len).toNat := by
  rw [h.eq]
  exact overwrite_take _ _ _

/-! ## The two `GET` commands -/

/-- A command that reads as `CHECKSUMMED_READ` does and then decodes a result, completes where that read completes, with
the same events and the result decoded from the bytes it returned (30_encoding.md R75). -/
theorem exec_get_of_checksummedRead {i : Instr} {op : Op} {opcode len : Byte} {value : List Byte → Word16}
    {s t : State}
    (hi : i.wellFormed = true) (hstart : startOf i s = startRead op opcode (latchedLen len) s.freeResults)
    (hop : op ≠ .checksummedRead ∧ op ≠ .update) (hk : op.replyKind = .checked)
    (hdecode : ∀ u : State, u.curOp = op → stepDecode u = (u.setResValue (value u.reply)).goTo .done)
    (hp : s.phase = .idle) (h : exec (.checksummedRead opcode len) s = .next t) (hd : t.done = true) :
    ∃ u, exec i s = .next u ∧ u.done = true ∧ u.trace = t.trace ∧ u.world = t.world ∧ u.buf = t.buf ∧
      u.resValue = value (firstBytes t.resBuf (latchedLen len).toNat) := by
  obtain ⟨bad, good, w, hdone⟩ := exec_checksummedRead_done hp h hd
  have hrun := runCommand_decodedRead (s := s.freeResults) (opcode := opcode) hop.1 hop.2 hk hdone.lo hdone.hi
    hdone.gives hdone.allows
  rw [hdecode _ rfl, State.afterRead_reply] at hrun
  refine ⟨_, exec_of_accepts ⟨hp, fun _ => hdone.ready, hi⟩, ?_⟩
  rw [hstart, hrun, hdone.resBuf, hdone.eq]
  exact ⟨rfl, rfl, rfl, rfl, rfl⟩

theorem byteAt_firstBytes (r : Reply) {k n : Nat} (hk : k < n) (h32 : k < 32) : byteAt (firstBytes r n) k = r[k] := by
  rw [firstBytes, byteAt_take hk]
  exact byteAt_of_getElem? (by simp [h32])

/-- Settles O57: both run as the checksummed read does, then decode its reply. -/
theorem getsAreChecksummedReads : Obligations.GetsAreChecksummedReads := by
  intro s t hp
  constructor
  · intro h hd
    obtain ⟨u, hu⟩ := exec_get_of_checksummedRead (i := .getReferenceVoltage) (value := decodeVref) rfl rfl
      (by decide) rfl (fun u hu => by simp [stepDecode, hu, complete_eq, Op.isWire]) hp h hd
    refine ⟨u, ?_⟩
    rwa [decodeVref, be16_eq, byteAt_firstBytes _ (by decide) (by decide),
      byteAt_firstBytes _ (by decide) (by decide)] at hu
  · intro h hd
    obtain ⟨u, hu⟩ := exec_get_of_checksummedRead (i := .getStatus)
      (value := fun bytes => (decodeStatus bytes).zeroExtend 16) rfl rfl (by decide)
      rfl (fun u hu => by simp [stepDecode, hu, complete_eq, Op.isWire]) hp h hd
    refine ⟨u, ?_⟩
    rwa [decodeStatus, byteAt_firstBytes _ (by decide) (by decide)] at hu

end Sys2Proof.Machine

namespace Sys2Proof.Machine

/-! ## `UPDATE` is two checksummed reads -/

/-- The state of `UPDATE` about to do its second read, its first reply decoded (44_commands.md R156). -/
def State.betweenReads (bad : List Reply) (good : Reply) (w : World) (s : State) : State :=
  { s.afterRead .update 0x11 30 bad good w with
    particleCounts := decodeCounts (firstBytes good 30)
    curOpcode := 0x12, curParam := 0, curLen := 32, phase := .write }

/-- The state in which `UPDATE` is complete: `s` is the one its second read began in. -/
def State.afterSecondRead (bad : List Reply) (good : Reply) (w : World) (s : State) : State :=
  { s.afterRead .update 0x12 32 bad good w with
    massConcentrations := decodeConc (firstBytes good 32), phase := .done }

/-- A checksummed read of a command that decodes, and the decode (42_checked_read.md R121, R128). -/
theorem advanceN_readThenDecode {s : State} {bad : List Reply} {good : Reply} {w : World} (hp : s.phase = .write)
    (hk : s.curOp.replyKind = .checked) (hop : s.curOp ≠ .checksummedRead) (hpar : s.curParam = 0)
    (h2 : 2 ≤ s.curLen.toNat) (h32 : s.curLen.toNat ≤ 32) (hg : s.world.Gives s.curLen.toNat bad good w)
    (ha : s.world.allows (2 * bad.length + 1)) :
    advanceN (4 * bad.length + 3 + 1) s =
      stepDecode { s.afterRead s.curOp s.curOpcode s.curLen bad good w with phase := .decode } := by
  have hmatch : afterMatch { s.afterRead s.curOp s.curOpcode s.curLen bad good w with phase := .check } =
      { s.afterRead s.curOp s.curOpcode s.curLen bad good w with phase := .decode } := if_neg hop
  rw [advanceN_add, advanceN_checkedRead hp hk hpar h2 h32 hg ha, hmatch, advanceN, advanceN, advance_of_decode rfl]

/-- The first read of `UPDATE` and its decode. -/
theorem advanceN_firstRead {s : State} {bad : List Reply} {good : Reply} {w : World} (hg : s.world.Gives 30 bad good w)
    (ha : s.world.allows (2 * bad.length + 1)) :
    advanceN (4 * bad.length + 3 + 1) (startRead .update 0x11 30 s) = s.betweenReads bad good w := by
  have hreply := s.afterRead_reply .update 0x11 30 bad good w .decode
  rw [advanceN_readThenDecode (s := startRead .update 0x11 30 s) rfl rfl nofun rfl (by simp [startRead])
    (by simp [startRead]) hg ha]
  change decodeUpdateCounts { s.afterRead .update 0x11 30 bad good w with phase := .decode } = _
  rw [decodeUpdateCounts, hreply]
  rfl

/-- The second read of `UPDATE` and its decode. -/
theorem advanceN_secondRead {s : State} {bad : List Reply} {good : Reply} {w : World} (hp : s.phase = .write)
    (hop : s.curOp = .update) (ho : s.curOpcode = 0x12) (hpar : s.curParam = 0) (hn : s.curLen = 32)
    (hg : s.world.Gives 32 bad good w) (ha : s.world.allows (2 * bad.length + 1)) :
    advanceN (4 * bad.length + 3 + 1) s = s.afterSecondRead bad good w := by
  have hreply := s.afterRead_reply .update 0x12 32 bad good w .decode
  rw [advanceN_readThenDecode hp (by rw [hop]; rfl) (by rw [hop]; nofun) hpar (by rw [hn]; decide)
    (by rw [hn]; decide) (by rw [hn]; exact hg) ha, hop, ho, hn]
  change State.complete (State.setConc (decodeConc (State.reply _)) _) = _
  rw [hreply]
  rfl

/-- The two reads of `UPDATE` fit its budget (log 4), so it runs until it is complete. -/
theorem runCommand_update {s : State} {bad₁ bad₂ : List Reply} {good₁ good₂ : Reply} {w₁ w₂ : World}
    (hg₁ : s.world.Gives 30 bad₁ good₁ w₁) (ha₁ : s.world.allows (2 * bad₁.length + 1))
    (hg₂ : (w₁.afterCompletions (2 * bad₁.length + 1)).Gives 32 bad₂ good₂ w₂)
    (ha₂ : (w₁.afterCompletions (2 * bad₁.length + 1)).allows (2 * bad₂.length + 1)) :
    runCommand (startRead .update 0x11 30 s) = (s.betweenReads bad₁ good₁ w₁).afterSecondRead bad₂ good₂ w₂ := by
  have hbudget := budget_of_gives_gives (World.Gives_afterCompletions hg₁) hg₂
  refine advanceN_completed (m := 4 * bad₁.length + 3 + 1 + (4 * bad₂.length + 3 + 1))
    (Nat.le_trans (by omega) hbudget) ?_ (.inl rfl)
  rw [advanceN_add, advanceN_firstRead hg₁ ha₁]
  exact advanceN_secondRead rfl rfl rfl rfl rfl hg₂ ha₂

/-- The step of a block in `DONE` leaves it idle, and not ready if it was a reset (30_encoding.md R70,
70_reset_and_hazards.md R191). -/
theorem step_of_done_next {s t : State} (hd : s.done = true) (h : step s = .next t) :
    t.phase = .idle ∧ (t.ready = true → t = s.leaveDone) := by
  have hp : s.phase = .done := of_decide_eq_true hd
  cases hreset : s.resetRequest with
  | true =>
    rw [step_of_resetRequest hreset] at h
    cases h
    exact ⟨rfl, nofun⟩
  | false =>
    rw [step_of_done hreset hp] at h
    cases h
    exact ⟨rfl, fun _ => rfl⟩

/-- Settles O58: the second read begins in the world the first one left, so `UPDATE` is given the replies of both. -/
theorem updateIsTwoChecksummedReads : Obligations.UpdateIsTwoChecksummedReads := by
  intro s t₁ s₁ t₂ hp h₁ hd₁ hstep h₂ hd₂
  obtain ⟨hp₁, hleave⟩ := step_of_done_next hd₁ hstep
  obtain ⟨bad₁, good₁, w₁, first⟩ := exec_checksummedRead_done hp h₁ hd₁
  obtain ⟨bad₂, good₂, w₂, second⟩ := exec_checksummedRead_done hp₁ h₂ hd₂
  have hs₁ := hleave second.ready
  have hworld : s₁.world = w₁.afterCompletions (2 * bad₁.length + 1) := by rw [hs₁, first.eq]; rfl
  have hg₂ := second.gives
  have ha₂ := second.allows
  rw [hworld] at hg₂ ha₂
  have hrun := runCommand_update (s := s.freeResults) first.gives first.allows hg₂ ha₂
  have hcounts : t₁.resBuf.toList.take 30 = firstBytes good₁ 30 := first.resBuf
  have hconc : t₂.resBuf.toList.take 32 = firstBytes good₂ 32 := second.resBuf
  refine ⟨_, exec_of_accepts ⟨hp, fun _ => first.ready, rfl⟩, ?_⟩
  rw [show startOf .update s = startRead .update 0x11 30 s.freeResults from rfl, hrun, hcounts, hconc, second.eq, hs₁,
    first.eq]
  exact ⟨rfl, rfl, rfl, rfl, rfl⟩

end Sys2Proof.Machine

namespace Sys2Proof.Machine

/-! ## `WRITE_COMMAND` and `READ_REPLY` -/

/-- In a phase whose primitive is no read, one completion is enough not to be held (60_exceptions.md R174). -/
theorem not_held_of_allows {s : State} (hp : s.phase ≠ .read) (ha : s.world.allows 1) : ¬ s.Held := by
  rintro (⟨-, hc⟩ | ⟨hr, -⟩)
  · have := ha 0 hc
    omega
  · exact hp hr

theorem reportsSuccess_eq_false {op : Op} (h : op.replyKind ≠ .none) : op.reportsSuccess = false := by
  cases op with
  | setFan | write => exact absurd rfl h
  | _ => rfl

/-- What follows the command write changes the phase, and `res_ok` where the command reports success (42_checked_read.md
R129, 44_commands.md R160). -/
theorem afterWrite_eq (s : State) :
    ∃ p, afterWrite s = (s.setResOk (s.curOp.reportsSuccess || s.resOk)).goTo p := by
  by_cases hk : s.curOp.replyKind = .none
  · rw [afterWrite_of_none hk, complete_eq]
    cases s.curOp.reportsSuccess <;> exact ⟨_, rfl⟩
  · rw [afterWrite_of_reads hk, reportsSuccess_eq_false hk]
    exact ⟨_, rfl⟩

/-- What follows the reply read changes the phase, and `res_buf` and `res_len` where the reply is not checked
(42_checked_read.md R126, R128). -/
theorem afterRead_eq (s : State) : ∃ p b n, (s.curOp.replyKind = .checked → b = s.resBuf ∧ n = s.resLen) ∧
    afterRead s = { s with phase := p, resBuf := b, resLen := n } := by
  by_cases hk : s.curOp.replyKind = .plain
  · rw [afterRead_of_plain hk, hk]
    exact ⟨s.setResBuf.complete.phase, s.setResBuf.resBuf, s.setResBuf.resLen, nofun,
      by simp only [complete_eq, State.goTo, State.setResBuf]⟩
  · rw [afterRead_of_not_plain hk]
    exact ⟨.check, s.resBuf, s.resLen, fun _ => ⟨rfl, rfl⟩, rfl⟩

theorem World.answer_of_draw_one {w w' : World} {r : Reply} (h : w.draw 1 = some ([r], w')) :
    w.answer = some (r, w') := by
  simpa [World.draw_one] using h

/-- The transition of `READ` on the reply the peripheral gives (40_transport.md R83). -/
theorem advance_of_answer {s : State} {r : Reply} {w : World} (hp : s.phase = .read)
    (ha : s.world.answer = some (r, w)) : advance s = afterRead (s.afterReply r w) := by
  rw [advance_of_read hp]
  exact State.readReply_of_answer ha

/-- Settles O39: each transport operation is the write or the read of its registers, and what follows it changes the
phase and at most a result register. -/
theorem transportOperations : Obligations.TransportOperations := by
  intro s hr
  refine ⟨fun hp ha => ?_, fun r w hp hd _ _ => ?_⟩
  · obtain ⟨p, e⟩ := afterWrite_eq ((s.setFrame (commandFrame s.curOpcode s.curParam)).afterPrimitive
      (sent s.curOpcode s.curParam))
    have hstep := step_of_busy hr (by simp [State.busy, hp])
    rw [advance_write (not_held_of_allows (by simp [hp]) ha) hp, e] at hstep
    refine ⟨_, hstep, ?_⟩
    simp +contextual [State.afterPrimitive, SameReadings, sent, commandFrame_eq]
  · obtain ⟨p, b, n, hres, e⟩ := afterRead_eq (s.afterReply r w)
    have hstep := step_of_busy hr (by simp [State.busy, hp])
    rw [advance_of_answer hp (World.answer_of_draw_one hd), e] at hstep
    refine ⟨_, hstep, s.afterReply_reply r w, ?_⟩
    simpa [State.afterReply, SameReadings, received, firstBytes] using hres

end Sys2Proof.Machine

namespace Sys2Proof.Machine

/-! ## The startup sequence -/

/-- The events of `BEGIN` (40_transport.md R85). -/
def startupEvents : List Event := [.linkInit, .wait 100, sent 0x10 0x01, .wait 1000]

/-- The phase of `BEGIN` after `k` of its events (10_state.md R28). -/
def startupPhase : Nat → Phase
  | 0 => .link
  | 1 => .settle1
  | 2 => .prime
  | 3 => .settle2
  | _ => .done

/-- The state of `BEGIN`, started in `s`, after `k` of its events: the third is the priming write, after the last the
driver is ready. -/
def State.inStartup (k : Nat) (s : State) : State :=
  { s with
    curOp := .begin, curOpcode := 0x10, curParam := 0x01
    frame := if 3 ≤ k then #v[0x10, 0x01, 0, 0, 0, 0, 0, 0] else s.frame
    trace := s.trace ++ startupEvents.take k
    world := s.world.afterCompletions k
    ready := decide (4 ≤ k)
    phase := startupPhase k }

theorem startBegin_eq (s : State) : startBegin s = s.inStartup 0 := by
  have hw : s.world.afterCompletions 0 = s.world := s.world.afterCompletions_zero
  have ht : s.trace ++ startupEvents.take 0 = s.trace := List.append_nil _
  rw [State.inStartup, hw, ht]
  rfl

theorem startupPhase_ne_read (k : Nat) : startupPhase k ≠ .read := by
  unfold startupPhase
  split <;> nofun

/-- The next event of the startup sequence, and what else its transition writes. -/
theorem State.inStartup_succ {k : Nat} {e : Event} (s : State) (he : startupEvents[k]? = some e) :
    s.inStartup (k + 1) = { (s.inStartup k).afterPrimitive e with
      frame := (s.inStartup (k + 1)).frame, ready := decide (4 ≤ k + 1), phase := startupPhase (k + 1) } := by
  simp [State.inStartup, State.afterPrimitive, State.record, State.setWorld, List.take_add_one, he,
    World.afterCompletions_afterCompletions]

/-- One more event of the startup sequence, where its primitive completes. -/
theorem advance_inStartup {k : Nat} {s : State} (hk : k < 4) (ha : s.world.allows (k + 1)) :
    advance (s.inStartup k) = s.inStartup (k + 1) := by
  have hh : ¬ (s.inStartup k).Held := not_held_of_allows (startupPhase_ne_read k) (World.allows_afterCompletions ha)
  match k, hk with
  | 0, _ => rw [advance_link hh rfl, s.inStartup_succ (k := 0) (e := .linkInit) rfl]; rfl
  | 1, _ => rw [advance_settle1 hh rfl, s.inStartup_succ (k := 1) (e := .wait 100) rfl]; rfl
  | 2, _ => rw [advance_prime hh rfl, s.inStartup_succ (k := 2) (e := sent 0x10 0x01) rfl]; rfl
  | 3, _ => rw [advance_settle2 hh rfl, s.inStartup_succ (k := 3) (e := .wait 1000) rfl]; rfl

theorem advanceN_inStartup {k : Nat} {s : State} (hk : k ≤ 4) (ha : s.world.allows k) :
    advanceN k (startBegin s) = s.inStartup k := by
  induction k with
  | zero => exact startBegin_eq s
  | succ k ih =>
    rw [advanceN_add, ih (by omega) (World.allows_mono ha (by omega))]
    exact advance_inStartup hk ha

/-- A held block stays as it is, but that the frame it would send is built (60_exceptions.md R174). -/
theorem advanceN_of_held_eq (n : Nat) {s : State} (h : s.Held) : ∃ f, advanceN n s = s.setFrame f := by
  induction n generalizing s with
  | zero => exact ⟨s.frame, rfl⟩
  | succ n ih =>
    obtain e | ⟨f, e⟩ := advance_of_held h <;> rw [advanceN, e]
    · exact ih h
    · exact ih (h.setFrame f)

theorem four_le_transitionBudget (w : World) : 4 ≤ transitionBudget w := by
  unfold transitionBudget
  omega

/-- With only k completions the block is held after k events. -/
theorem held_inStartup {k : Nat} {s : State} (hc : s.world.completions = some k) (hk : k < 4) :
    (s.inStartup k).Held := by
  refine .inl ⟨?_, by simp [State.inStartup, World.afterCompletions, hc]⟩
  change startupPhase k ∈ _
  match k, hk with
  | 0, _ | 1, _ | 2, _ | 3, _ => decide

theorem runCommand_startBegin_of_hang {k : Nat} {s : State} (hc : s.world.completions = some k) (hk : k < 4) :
    ∃ f, runCommand (startBegin s) = (s.inStartup k).setFrame f := by
  have ha : s.world.allows k := fun n hn => (Option.some.inj (hc.symm.trans hn)).le
  obtain ⟨m, hm⟩ := Nat.exists_eq_add_of_le (hk.le.trans (four_le_transitionBudget (startBegin s).world))
  rw [runCommand, hm, advanceN_add, advanceN_inStartup hk.le ha]
  exact advanceN_of_held_eq m (held_inStartup hc hk)

theorem State.Held.busy {s : State} (h : s.Held) : s.busy = true := by
  cases hp : s.phase with
  | idle | done => simp [State.Held, hp] at h
  | _ => simp [State.busy, hp]

/-- Settles O18: an idle block accepts `BEGIN`, which runs through its four events or is held after the last that
completes. -/
theorem beginRunsTheStartupSequence : Obligations.BeginRunsTheStartupSequence := by
  intro s hp
  have haccept : exec .begin s = .next (runCommand (startBegin s.freeResults)) := exec_of_accepts ⟨hp, nofun, rfl⟩
  rw [haccept]
  constructor
  · intro ha
    have hrun : runCommand (startBegin s.freeResults) = s.freeResults.inStartup 4 :=
      advanceN_completed (four_le_transitionBudget _) (advanceN_inStartup le_rfl ha) (.inl rfl)
    exact congrArg _ hrun
  · intro k hc hk
    obtain ⟨f, e⟩ := runCommand_startBegin_of_hang (s := s.freeResults) hc hk
    have hheld := (held_inStartup (s := s.freeResults) hc hk).setFrame f
    exact ⟨_, congrArg _ e, decide_eq_false (by omega), hheld.busy, ⟨rfl, rfl⟩, rfl⟩

end Sys2Proof.Machine

namespace Sys2Proof.Machine

/-! ## What a block adds to the trace before it is ready -/

/-- From `s` to `u` the block has added only events of the startup sequence, and it is not in the framer's loop. -/
def StartsUpFrom (s u : State) : Prop :=
  u.phase.isFramer = false ∧ ∃ es, u.trace = s.trace ++ es ∧ ∀ e ∈ es, e.isStartup

theorem StartsUpFrom.of_trace {s u : State} (hp : u.phase.isFramer = false) (ht : u.trace = s.trace) :
    StartsUpFrom s u :=
  ⟨hp, [], by rw [ht, List.append_nil], nofun⟩

/-- One more event of the startup sequence. -/
theorem StartsUpFrom.add {s u v : State} {e : Event} (h : StartsUpFrom s u) (ht : v.trace = u.trace ++ [e])
    (he : e.isStartup) (hp : v.phase.isFramer = false) : StartsUpFrom s v := by
  obtain ⟨-, es, hes, hall⟩ := h
  refine ⟨hp, es ++ [e], by rw [ht, hes, List.append_assoc], fun x hx => ?_⟩
  rcases List.mem_append.1 hx with hx | hx
  · exact hall x hx
  · rwa [List.mem_singleton.1 hx]

/-- Outside the framer's loop a transition sends the priming frame or none (40_transport.md R85). -/
theorem StartsUpFrom.advance {s u : State} (h : StartsUpFrom s u) : StartsUpFrom s (advance u) := by
  by_cases hh : u.Held
  · obtain e | ⟨f, e⟩ := advance_of_held hh <;> rw [e] <;> exact h
  cases hp : u.phase with
  | idle => rwa [advance_of_idle hp]
  | done => rwa [advance_of_done hp]
  | link =>
    rw [advance_link hh hp]
    exact h.add rfl (.inl rfl) rfl
  | settle1 =>
    rw [advance_settle1 hh hp]
    exact h.add rfl (.inr (.inl rfl)) rfl
  | prime =>
    rw [advance_prime hh hp]
    exact h.add rfl (.inr (.inr (.inl rfl))) rfl
  | settle2 =>
    rw [advance_settle2 hh hp, complete_eq]
    exact h.add rfl (.inr (.inr (.inr rfl))) (by rw [State.goTo_phase]; split <;> rfl)
  | write | read | check | backoff | decode => simp [StartsUpFrom, hp, Phase.isFramer] at h

/-- A command that needs no ready driver does not enter the framer's loop (60_exceptions.md R177). -/
theorem startOf_isFramer {i : Instr} (h : i.needsReady = false) (s : State) :
    (startOf i s).phase.isFramer = false := by
  cases i with
  | begin | setDebug => rfl
  | _ => cases h

theorem exec_startsUpFrom {i : Instr} {s t : State} (hp : s.phase.isFramer = false) (hr : s.ready = false)
    (h : exec i s = .next t) : StartsUpFrom s t := by
  obtain ⟨-, rfl⟩ | ⟨⟨-, hneeds, -⟩, rfl⟩ := exec_next h
  · exact .of_trace hp rfl
  · have hi : i.needsReady = false := Bool.eq_false_iff.2 fun hi => by simp [hneeds hi] at hr
    exact advanceN_induction (fun _ hu => hu.advance) _ (.of_trace (startOf_isFramer hi s) (startOf_trace i s))

/-- A block that is not ready is not in the framer's loop (40_transport.md R87). -/
theorem State.Inv.isFramer_eq_false {s : State} (h : s.Inv) (hr : s.ready = false) : s.phase.isFramer = false :=
  Bool.eq_false_iff.2 fun hf => by simp [h.framerReady hf] at hr

theorem step_startsUpFrom {s t : State} (hi : s.Inv) (hr : s.ready = false) (hreset : s.resetRequest = false)
    (h : step s = .next t) : StartsUpFrom s t := by
  have hp := hi.isFramer_eq_false hr
  obtain ⟨hreset', -⟩ | ⟨-, ⟨-, -, rfl⟩ | ⟨-, c, i, -, -, he⟩ | ⟨-, rfl⟩ | ⟨-, rfl⟩⟩ := step_next h
  · simp [hreset] at hreset'
  · exact .of_trace hp rfl
  · exact exec_startsUpFrom (s := s.takePending) hp hr he
  · exact .of_trace rfl rfl
  · exact (StartsUpFrom.of_trace hp rfl).advance

/-- Settles O60: the invariant keeps a block that is not ready out of the framer's loop, the only one to send another
frame. -/
theorem onlyStartupEventsBeforeReady : Obligations.OnlyStartupEventsBeforeReady := by
  intro s t hi hr hreset h
  obtain ⟨-, es, hes, hall⟩ := step_startsUpFrom hi hr hreset h
  rwa [hes, List.drop_left]

end Sys2Proof.Machine

namespace Sys2Proof.Machine

/-! ## `CRC_BIT`: its bits, its linearity, and when it only shifts -/

/-- A bit of the register after `CRC_BIT` (41_crc16.md R102): the next higher bit, and the feedback bit where the
polynomial has a 1. -/
theorem getLsbD_crcBit (c : CrcWord) (d : Bool) (i : Nat) :
    (crcBit c d).getLsbD i = (c.getLsbD (1 + i) ^^ ((c.getLsbD 0 ^^ d) && Config.crcPoly.getLsbD i)) := by
  unfold crcBit
  cases c.getLsbD 0 ^^ d <;> simp

/-- The polynomial has bits 15, 10 and 3 set, no other (R103). -/
theorem getLsbD_crcPoly (i : Nat) : Config.crcPoly.getLsbD i = decide (i = 15 ∨ i = 10 ∨ i = 3) := by
  by_cases hi : i < 16
  · interval_cases i <;> rfl
  · rw [BitVec.getLsbD_of_ge _ _ (not_lt.1 hi), eq_comm, decide_eq_false_iff_not]
    omega

/-- Settles O5: each equation is the bit of the register at its place, with feedback where the polynomial has a 1. -/
theorem crcBitIsTheSixteenEquations : Obligations.CrcBitIsTheSixteenEquations := by
  intro c d
  simp only [getLsbD_crcBit, getLsbD_crcPoly]
  simp

/-- `CRC_BIT` is linear over XOR, in register and data bit together. -/
theorem crcBit_xor (a c : CrcWord) (d e : Bool) : crcBit (a ^^^ c) (d ^^ e) = crcBit a d ^^^ crcBit c e := by
  apply BitVec.eq_of_getLsbD_eq
  intro i _
  simp only [getLsbD_crcBit, BitVec.getLsbD_xor]
  cases Config.crcPoly.getLsbD i <;> simp [Bool.xor_left_comm]

/-- A data bit equal to the register's low bit gives no feedback, so the register only shifts. -/
theorem crcBit_lowBit (c : CrcWord) : crcBit c (c.getLsbD 0) = c >>> 1 := by
  simp [crcBit]

/-- The register before `CRC_BIT` is known from the one after it: bit 15 is the feedback bit (R103). -/
theorem crcBit_injective (d : Bool) : Function.Injective fun c => crcBit c d := by
  intro a c h
  have hbit (i : Nat) := congrArg (BitVec.getLsbD · i) h
  simp only [getLsbD_crcBit, getLsbD_crcPoly] at hbit
  have hlow : a.getLsbD 0 = c.getLsbD 0 := by simpa using hbit 15
  have hrest (i : Nat) : a.getLsbD (1 + i) = c.getLsbD (1 + i) := by
    rw [← Bool.xor_left_inj, hbit i, hlow]
  apply BitVec.eq_of_getLsbD_eq
  intro i _
  cases i with
  | zero => exact hlow
  | succ i => rw [Nat.add_comm]; exact hrest i

/-! ## `CRC_BYTE` and `CRC16` as passes over bits and bytes -/

/-- A pass of steps that each determine the value before them determines the value it starts from. -/
theorem foldl_injective {α β : Type} {f : β → α → β} (hf : ∀ a, Function.Injective fun b => f b a) (l : List α) :
    Function.Injective fun b => l.foldl f b := by
  induction l with
  | nil => exact Function.injective_id
  | cons a l ih => exact ih.comp (hf a)

theorem crcByte_injective (b : Byte) : Function.Injective fun c => crcByte c b :=
  foldl_injective (fun i => crcBit_injective (b.getLsbD i)) _

theorem crcByte_xor (a c : CrcWord) (b e : Byte) : crcByte (a ^^^ c) (b ^^^ e) = crcByte a b ^^^ crcByte c e :=
  List.foldl_hom₂ _ _ _ _ _ a c fun a c i => by rw [BitVec.getLsbD_xor, crcBit_xor]

/-- Data bits equal to the register's own, from bit 0 up, shift the register and do nothing else. -/
theorem foldl_crcBit_ownBits (c : CrcWord) (n : Nat) :
    (List.range n).foldl (fun r i => crcBit r (c.getLsbD i)) c = c >>> n := by
  induction n with
  | zero => simp
  | succ n ih =>
    have hlow : c.getLsbD n = (c >>> n).getLsbD 0 := by simp
    rw [List.range_succ, List.foldl_append, ih, List.foldl_cons, List.foldl_nil, hlow, crcBit_lowBit,
      BitVec.shiftRight_add]

/-- `CRC_BYTE` of the register's own low byte is a shift by 8. -/
theorem crcByte_lowByte (c : CrcWord) : crcByte c (c.extractLsb' 0 8) = c >>> 8 := by
  rw [← foldl_crcBit_ownBits]
  simp [crcByte, List.range_succ]

/-- Settles O6: `CRC_BYTE` is `CRC_BIT` over the byte's eight bits, so the pass over bytes is one over bits. -/
theorem crcIsOnePassOverTheBits : Obligations.CrcIsOnePassOverTheBits := by
  intro s bits c
  have hbits : bits.foldl crcBit 0xFFFF = crcOver s := List.foldl_flatMap
  have hc : c = ~~~ crcOver s := congrArg (~~~ ·) hbits
  rw [hc]
  rfl

/-- From a register of one byte, `CRC_BYTE(0x00)` leaves what `CRC_BYTE` of that byte leaves from zero: the table of
R108 (a). -/
theorem crcByte_zeroExtend_zero (x : Byte) : crcByte (x.zeroExtend 16) 0 = crcByte 0 x := by
  have hlow : (x.zeroExtend 16).extractLsb' 0 8 = x := by
    rw [BitVec.zeroExtend, BitVec.extractLsb'_setWidth_of_le (by decide), BitVec.extractLsb'_eq_self]
  have hshift : (x.zeroExtend 16 : CrcWord) >>> 8 = 0 := by
    apply BitVec.eq_of_getLsbD_eq
    intro i _
    simp
  have hzero : crcByte (x.zeroExtend 16) 0 ^^^ crcByte 0 x = 0 := by
    calc crcByte (x.zeroExtend 16) 0 ^^^ crcByte 0 x
        = crcByte (x.zeroExtend 16) ((x.zeroExtend 16).extractLsb' 0 8) := by rw [← crcByte_xor, hlow]; simp
      _ = 0 := by rw [crcByte_lowByte, hshift]
  exact BitVec.xor_eq_zero_iff.1 hzero

/-- Settles O8: the data byte is the register's low byte XOR the index of the table. The first of these only shifts the
register, by linearity the second gives the table entry. -/
theorem crcByteAtOnce : Obligations.CrcByteAtOnce := by
  intro c b
  have hindex : (c ^^^ b.zeroExtend 16).setWidth 8 = c.extractLsb' 0 8 ^^^ b := by
    rw [BitVec.setWidth_xor, BitVec.zeroExtend, BitVec.setWidth_setWidth_of_le _ (by decide), BitVec.setWidth_eq,
      BitVec.setWidth_eq_extractLsb' (by decide)]
  rw [hindex, crcByte_zeroExtend_zero]
  calc crcByte c b
      = crcByte (c ^^^ 0) (c.extractLsb' 0 8 ^^^ (c.extractLsb' 0 8 ^^^ b)) := by simp
    _ = (c >>> 8) ^^^ crcByte 0 (c.extractLsb' 0 8 ^^^ b) := by rw [crcByte_xor, crcByte_lowByte]

/-! ## The validator and the port -/

/-- The checksum of a register is two given bytes exactly where the first is the low byte of the complement and the
second its high byte: the exchange of R105. -/
theorem crcFinal_eq_append_iff (c : CrcWord) (hi lo : Byte) :
    crcFinal c = hi ++ lo ↔ hi = (~~~c).extractLsb' 0 8 ∧ lo = (~~~c).extractLsb' 8 8 := by
  have hhigh : (crcFinal c).extractLsb' 8 8 = (~~~c).extractLsb' 0 8 := BitVec.extractLsb'_append_eq_left
  have hlow : (crcFinal c).extractLsb' 0 8 = (~~~c).extractLsb' 8 8 := BitVec.extractLsb'_append_eq_right
  rw [eq_append_iff_bytes, hhigh, hlow]

theorem valCheck_iff_crc16_eq_trailer (s : List Byte) (len : Nat) :
    valCheck s len = true ↔ crc16 (payload s len) = trailer s len :=
  beq_iff_eq

/-- Settles O12: the trailer is the two last bytes, which `CRC_FINAL` compares in exchanged order. -/
theorem matchSeenByteByByte : Obligations.MatchSeenByteByByte := by
  intro s len hi lo hlen hhi hlo
  have htrailer : trailer s len = hi ++ lo := by
    have hnext : len - 2 + 1 = len - 1 := by omega
    rw [trailer, Config.trailerLen, be16_eq, hnext, byteAt_of_getElem? hhi, byteAt_of_getElem? hlo]
  rw [valCheck_iff_crc16_eq_trailer, htrailer]
  exact crcFinal_eq_append_iff _ hi lo

/-- Settles O7. -/
theorem validatorComparesTheTrailer : Obligations.ValidatorComparesTheTrailer := by
  intro p hi lo
  have hlen : p.length + 2 = (p ++ [hi, lo]).length := by simp
  rw [valCheck_iff_crc16_eq_trailer, valReceived, hlen, payload_append_pair, trailer_append_pair]
  exact ⟨rfl, Iff.rfl⟩

/-- A clear and then a byte a step leaves in the port's register the register of `CRC16` (R106, R114). -/
theorem foldl_crcPortStep (s : List Byte) (din : Byte) (c : CrcWord) :
    s.foldl (fun r b => crcPortStep false true b r) (crcPortStep true false din c) = crcOver s := rfl

/-- Settles O13: the port's register is the validator's, and both compare its checksum with the trailer. -/
theorem crcPortAgreesWithTheValidator : Obligations.CrcPortAgreesWithTheValidator := by
  intro s len c din
  rw [foldl_crcPortStep]
  rfl

/-! ## What a checksum-valid reply leaves in the register -/

/-- A checksum-valid reply is a payload and the checksum's two bytes (30_encoding.md R77). -/
theorem exists_append_pair_of_checksumValid {s : List Byte} (h : checksumValid s) :
    ∃ p hi lo, s = p ++ [hi, lo] ∧ crc16 p = hi ++ lo := by
  have hlen : (s.drop (s.length - 2)).length = 2 := by rw [List.length_drop, Nat.sub_sub_self h.1]
  obtain ⟨hi, lo, ht⟩ := List.length_eq_two.1 hlen
  have hs : s = s.take (s.length - 2) ++ [hi, lo] := by rw [← ht, List.take_append_drop]
  exact ⟨_, hi, lo, hs, (checksumValid_append_pair _ hi lo).1 (hs ▸ h)⟩

/-- Two bytes equal to the register's own shift it out. -/
theorem crcByte_ownBytes (c : CrcWord) : crcByte (crcByte c (c.extractLsb' 0 8)) (c.extractLsb' 8 8) = 0 := by
  have hhigh : c.extractLsb' 8 8 = (c >>> 8).extractLsb' 0 8 := by
    rw [← BitVec.setWidth_ushiftRight_eq_extractLsb, BitVec.setWidth_eq_extractLsb' (by decide)]
  rw [crcByte_lowByte, hhigh, crcByte_lowByte, ← BitVec.shiftRight_add]
  exact BitVec.ushiftRight_eq_zero le_rfl

/-- The residue: whatever the register, the two bytes of its complement leave what two zero bytes leave from 0xFFFF,
for the complement is the register XOR 0xFFFF and its own bytes shift it out (R108 (b)). -/
theorem crcByte_complementBytes (c : CrcWord) :
    crcByte (crcByte c ((~~~c).extractLsb' 0 8)) ((~~~c).extractLsb' 8 8) = 0xF0B8 := by
  have hc : c = ~~~c ^^^ 0xFFFF := by
    have hones : (0xFFFF : CrcWord) = BitVec.allOnes 16 := rfl
    rw [hones, BitVec.xor_allOnes, BitVec.not_not]
  calc crcByte (crcByte c ((~~~c).extractLsb' 0 8)) ((~~~c).extractLsb' 8 8)
      = crcByte (crcByte (~~~c ^^^ 0xFFFF) ((~~~c).extractLsb' 0 8 ^^^ 0)) ((~~~c).extractLsb' 8 8 ^^^ 0) := by
        rw [← hc]; simp
    _ = 0 ^^^ crcByte (crcByte 0xFFFF 0) 0 := by rw [crcByte_xor, crcByte_xor, crcByte_ownBytes]
    _ = 0 ^^^ crcByte 0x0F87 0 := by rw [show crcByte 0xFFFF 0 = 0x0F87 by decide]
    _ = 0xF0B8 := by decide

/-- Settles O9: the two trailer bytes are those of the complemented register after the payload. -/
theorem validReplyLeavesTheResidue : Obligations.ValidReplyLeavesTheResidue := by
  intro s h
  obtain ⟨p, hi, lo, rfl, hcrc⟩ := exists_append_pair_of_checksumValid h
  obtain ⟨rfl, rfl⟩ := (crcFinal_eq_append_iff _ hi lo).1 hcrc
  rw [crcOver_append]
  exact crcByte_complementBytes _

/-- The byte that a register has absorbed is known from what it leaves. -/
theorem crcByte_injective_data (c : CrcWord) : Function.Injective (crcByte c) := by
  intro b e h
  have hzero : crcByte ((b ^^^ e).zeroExtend 16) 0 = crcByte 0 0 := by
    calc crcByte ((b ^^^ e).zeroExtend 16) 0
        = crcByte (c ^^^ c) (b ^^^ e) := by rw [crcByte_zeroExtend_zero]; simp
      _ = 0 := by rw [crcByte_xor, h]; simp
  have hext : (b ^^^ e).zeroExtend 16 = 0#16 := crcByte_injective 0 hzero
  have hxor : b ^^^ e = 0#8 := by
    have h := congrArg (BitVec.setWidth 8) hext
    rwa [BitVec.zeroExtend, BitVec.setWidth_setWidth_of_le _ (by decide), BitVec.setWidth_eq] at h
  exact BitVec.xor_eq_zero_iff.1 hxor

/-- Two sequences that differ in one byte leave different registers. -/
theorem byte_eq_of_crcOver_set_eq {s : List Byte} {k : Nat} {b e : Byte} (hk : k < s.length)
    (h : crcOver (s.set k b) = crcOver (s.set k e)) : b = e := by
  rw [List.set_eq_take_append_cons_drop, List.set_eq_take_append_cons_drop, if_pos hk, if_pos hk, crcOver_append,
    crcOver_append] at h
  exact crcByte_injective_data _ (foldl_injective crcByte_injective _ h)

/-- Settles O10: both replies would leave the same residue, so the changed byte would be the byte itself. -/
theorem singleBitChangeIsDetected : Obligations.SingleBitChangeIsDetected := by
  intro s k j b hs hk hs'
  obtain ⟨hlt, hb⟩ := List.getElem?_eq_some_iff.1 hk
  have hsame : s.set k b = s := by rw [← hb, List.set_getElem_self]
  have hbyte : b = b ^^^ BitVec.twoPow 8 j := by
    apply byte_eq_of_crcOver_set_eq hlt
    rw [hsame, validReplyLeavesTheResidue _ hs, validReplyLeavesTheResidue _ hs']
  have hbit := congrArg (BitVec.getLsbD · j) hbyte
  simp at hbit

end Sys2Proof.Machine

namespace Sys2Proof.Machine

/-! ## A run of a block that stays busy -/

theorem run_core_succ {s t : State} (h : step s = .next t) (n : Nat) :
    Host.Core.run core (n + 1) s = Host.Core.run core n t := by
  have hcore : core.step s = .next t := h
  simp only [Host.Core.run, hcore]

/-- Where every transition keeps a property that makes the block busy, with no reset waiting, its run is a run of
transitions, and the property holds at the end. -/
theorem run_core_of_busy {P : State → Prop} (hbusy : ∀ u, P u → u.resetRequest = false ∧ u.busy = true)
    (hstep : ∀ u, P u → P (advance u)) (n : Nat) {s : State} (h : P s) :
    Host.Core.run core n s = .next (advanceN n s) ∧ P (advanceN n s) := by
  refine ⟨?_, advanceN_induction hstep n h⟩
  induction n generalizing s with
  | zero => rfl
  | succ n ih =>
    obtain ⟨hr, hb⟩ := hbusy s h
    exact (run_core_succ (step_of_busy hr hb) n).trans (ih (hstep s h))

/-! ## A checksummed read that gets no valid reply -/

/-- The reply such a peripheral gives is not valid, and it never gives a valid one after it
(42_checked_read.md R123). -/
theorem World.NeverValid.answer {n : Nat} {w w' : World} {r : Reply} (h : w.NeverValid n)
    (ha : w.answer = some (r, w')) : ¬ ReplyValid n r ∧ w'.NeverValid n := by
  obtain ⟨hlist, hrep⟩ := h
  obtain ⟨⟨hr, ht⟩ | ⟨-, ht, rfl⟩, -⟩ := World.answer_eq_some ha
  · rw [hr, List.forall_mem_cons] at hlist
    rw [← ht] at hrep
    exact ⟨hlist.1, hlist.2, hrep⟩
  · exact ⟨hrep r ht, hlist, hrep⟩

theorem State.afterReply_matchFlag {r : Reply} {w : World} {s : State} (h2 : 2 ≤ s.curLen.toNat)
    (h32 : s.curLen.toNat ≤ 32) : (s.afterReply r w).matchFlag = true ↔ ReplyValid s.curLen.toNat r := by
  have hlen : (s.afterReply r w).bufLen = s.curLen := by simp [State.afterReply]
  rw [State.matchFlag, State.afterReply_reply, hlen]
  exact valCheck_firstBytes r h2 h32

/-- `t` is `s` but for the scratch state other than the latches, the phase, the trace and the other agents. An equation
of states, so that an operation which writes only these keeps it by being applied to both sides. -/
def ScratchOnly (s t : State) : Prop :=
  t = { s with
    crc := t.crc, frame := t.frame, buf := t.buf, bufLen := t.bufLen
    phase := t.phase, trace := t.trace, world := t.world }

theorem ScratchOnly.refl (s : State) : ScratchOnly s s := rfl

section
variable {s t : State} (h : ScratchOnly s t)
include h

theorem ScratchOnly.goTo (p : Phase) : ScratchOnly s (t.goTo p) := congrArg (State.goTo p) h

theorem ScratchOnly.setCrc (c : CrcWord) : ScratchOnly s (t.setCrc c) := congrArg (State.setCrc c) h

theorem ScratchOnly.setFrame (f : Vector Byte Config.frameLen) : ScratchOnly s (t.setFrame f) :=
  congrArg (State.setFrame f) h

theorem ScratchOnly.afterPrimitive (e : Event) : ScratchOnly s (t.afterPrimitive e) :=
  congrArg (State.afterPrimitive e) h

theorem ScratchOnly.afterReply (r : Reply) (w : World) : ScratchOnly s (t.afterReply r w) :=
  (congrArg (fun u : State => ((u.setWorld w).setReply r t.curLen).record (received t.curLen.toNat r)) h :)

theorem ScratchOnly.curOp_eq : t.curOp = s.curOp := (congrArg State.curOp h :)

theorem ScratchOnly.curLen_eq : t.curLen = s.curLen := (congrArg State.curLen h :)

theorem ScratchOnly.resetRequest_eq : t.resetRequest = s.resetRequest := (congrArg State.resetRequest h :)

/-- What the host can read is untouched. -/
theorem ScratchOnly.outputs : SameReadings s t ∧ t.resBuf = s.resBuf ∧ t.resLen = s.resLen ∧
    t.resValue = s.resValue ∧ t.resOk = s.resOk := by
  have field {α : Type} (f : State → α) := congrArg f h
  exact ⟨⟨field State.particleCounts, field State.massConcentrations⟩, field State.resBuf, field State.resLen,
    field State.resValue, field State.resOk⟩

end

/-- `u` is in the retry loop of the checksummed read that `s` is in, and the loop will not end: no valid reply comes,
and one about to be checked is not valid. -/
structure Retrying (s u : State) : Prop where
  phase : u.phase = .write ∨ u.phase = .read ∨ u.phase = .check ∨ u.phase = .backoff
  never : u.world.NeverValid s.curLen.toNat
  mismatch : u.phase = .check → u.matchFlag = false
  scratch : ScratchOnly s u

theorem Retrying.busy {s u : State} (h : Retrying s u) : u.busy = true ∧ u.done = false := by
  rcases h.phase with hp | hp | hp | hp <;> simp [State.busy, State.done, hp]

/-- Every transition stays in the loop (42_checked_read.md R123): the check fails on whatever reply was read. -/
theorem Retrying.advance {s u : State} (hk : s.curOp.replyKind = .checked) (h2 : 2 ≤ s.curLen.toNat)
    (h32 : s.curLen.toNat ≤ 32) (h : Retrying s u) : Retrying s (advance u) := by
  by_cases hh : u.Held
  · obtain e | ⟨f, e⟩ := advance_of_held hh <;> rw [e]
    · exact h
    · exact ⟨h.phase, h.never, h.mismatch, h.scratch.setFrame f⟩
  have hku : u.curOp.replyKind = .checked := by rw [h.scratch.curOp_eq, hk]
  have hlen : u.curLen = s.curLen := h.scratch.curLen_eq
  rcases h.phase with hp | hp | hp | hp
  · have hreads : u.curOp.replyKind ≠ .none := by simp [hku]
    rw [advance_write hh hp, afterWrite_of_reads (by exact hreads)]
    exact ⟨by simp, h.never, by simp, ((h.scratch.setFrame _).afterPrimitive _).goTo .read⟩
  · obtain ⟨r, w, ha⟩ := answer_of_not_held hp hh
    obtain ⟨hbad, hnever⟩ := h.never.answer ha
    have hm : ¬ (u.afterReply r w).matchFlag = true := by
      rw [State.afterReply_matchFlag (by rwa [hlen]) (by rwa [hlen]), hlen]
      exact hbad
    rw [advance_of_answer hp ha, afterRead_of_checked (by simpa [State.afterReply] using hku)]
    exact ⟨by simp, by simpa [State.afterReply] using hnever, fun _ => Bool.eq_false_iff.2 hm,
      (h.scratch.afterReply r w).goTo .check⟩
  · have hcrc := h.scratch.setCrc (crcOver (payload u.reply u.bufLen.toNat))
    rw [advance_of_check hp, stepCheck_of_mismatch (h.mismatch hp)]
    exact ⟨by simp, h.never, by simp, hcrc.goTo .backoff⟩
  · rw [advance_backoff hh hp]
    exact ⟨by simp, h.never, by simp, (h.scratch.afterPrimitive _).goTo .write⟩

/-- A run of the loop is a run of its transitions, and stays in the loop. -/
theorem run_core_of_retrying {s : State} (hr : s.resetRequest = false) (hk : s.curOp.replyKind = .checked)
    (h2 : 2 ≤ s.curLen.toNat) (h32 : s.curLen.toNat ≤ 32) (h : Retrying s s) (n : Nat) :
    Host.Core.run core n s = .next (advanceN n s) ∧ Retrying s (advanceN n s) :=
  run_core_of_busy (fun _ (hu : Retrying s _) => ⟨hu.scratch.resetRequest_eq.trans hr, hu.busy.1⟩)
    (fun _ hu => hu.advance hk h2 h32) n h

/-- The latches of a checksummed read in the framer's loop: no parameter, a length of 2 to 32
(42_checked_read.md R120). -/
theorem State.Inv.checkedLatches {s : State} (h : s.Inv) (hf : s.phase.isFramer = true)
    (hk : s.curOp.replyKind = .checked) : s.curParam = 0 ∧ 2 ≤ s.curLen.toNat ∧ s.curLen.toNat ≤ 32 := by
  have hl := h.latches hf
  refine ⟨?_, hl.checkedLen_bounds hk⟩
  rw [State.LatchesOk] at hl
  cases hop : s.curOp <;> simp_all [Op.replyKind]

/-- Settles O46: the loop of a checksummed read is not left, and changes neither the readings nor the results. -/
theorem readNeverReturnsWithoutAValidReply : Obligations.ReadNeverReturnsWithoutAValidReply := by
  intro s n hi hr hp hk hnever
  simp only [List.mem_cons, List.not_mem_nil, or_false] at hp
  have hf : s.phase.isFramer = true := by rcases hp with hp | hp | hp <;> rw [hp] <;> rfl
  obtain ⟨-, h2, h32⟩ := hi.checkedLatches hf hk
  have hstart : Retrying s s := by
    refine ⟨?_, hnever, ?_, .refl s⟩ <;> rcases hp with hp | hp | hp <;> simp [hp]
  obtain ⟨hrun, hend⟩ := run_core_of_retrying hr hk h2 h32 hstart n
  exact ⟨_, hrun, hend.busy.1, hend.busy.2, hend.scratch.outputs⟩

/-- Where one invalid reply is repeated for ever and all else completes, n passes of the loop add n times the
events of a failed pass (42_checked_read.md R122, R123). -/
theorem advanceN_failedPasses_trace {s : State} {r : Reply} (n : Nat) (hp : s.phase = .write)
    (hk : s.curOp.replyKind = .checked) (hpar : s.curParam = 0) (h2 : 2 ≤ s.curLen.toNat)
    (h32 : s.curLen.toNat ≤ 32) (hw : s.world = { completions := none, replies := [], thereafter := some r })
    (hbad : ¬ ReplyValid s.curLen.toNat r) :
    (advanceN (4 * n) s).trace = s.trace ++
      (List.replicate n [sent s.curOpcode 0, received s.curLen.toNat r, .wait 1000]).flatten := by
  induction n generalizing s with
  | zero => simp [advanceN]
  | succ n ih =>
    have ha : s.world.allows (0 + 2) := by simp [World.allows, hw]
    have hr : s.world.answer = some (r, s.world) := by simp [World.answer, hw]
    have hworld : (s.afterFailedPass r s.world).world = s.world := by
      simp [State.afterFailedPass, World.afterCompletions, hw]
    rw [Nat.mul_succ, Nat.add_comm, advanceN_add, advanceN_failedPass hp hk h2 h32 ha hr hbad,
      ih (s := s.afterFailedPass r s.world) rfl hk hpar h2 h32 (hworld.trans hw) hbad]
    simp [State.afterFailedPass, List.replicate_succ, hpar]

/-- Settles O47: the run stays in the loop, and each of its passes fails. -/
theorem retryIsUnbounded : Obligations.RetryIsUnbounded := by
  intro s r n hi hr hp hk hw hbad
  obtain ⟨hpar, h2, h32⟩ := hi.checkedLatches (by rw [hp]; rfl) hk
  have hnever : s.world.NeverValid s.curLen.toNat := by simpa [World.NeverValid, hw] using hbad
  have hstart : Retrying s s := ⟨by simp [hp], hnever, by simp [hp], .refl s⟩
  exact ⟨_, (run_core_of_retrying hr hk h2 h32 hstart (4 * n)).1,
    advanceN_failedPasses_trace n hp hk hpar h2 h32 hw hbad⟩

end Sys2Proof.Machine

namespace Sys2Proof.Machine

/-! ## The generic framer operations that complete -/

/-- Settles O23: an idle, ready block accepts the length, and the run presents the valid reply. -/
theorem checksummedReadCompletes : Obligations.ChecksummedReadCompletes := by
  intro s opcode len bad good w hp hr h2 h32 hg ha
  have hn : (latchedLen len).toNat = len.toNat := latchedLen_toNat h32
  have haccept : Accepts (.checksummedRead opcode len) s := ⟨hp, fun _ => hr, decide_eq_true ⟨h2, h32⟩⟩
  have hrun := runCommand_checksummedRead (s := s.freeResults) (opcode := opcode) (n := latchedLen len)
    (by rwa [hn]) (by rwa [hn]) (by rwa [hn]) ha
  rw [exec_of_accepts haccept]
  refine (congrArg _ hrun).trans ?_
  rw [State.presentReply, hn, latchedLen_eq]

/-- The state in which `PLAIN_READ` presents its reply (42_checked_read.md R126); the world left by the reply is `w`. -/
def State.presentPlainReply (opcode : Byte) (n : BitVec 6) (r : Reply) (w : World) (s : State) : State :=
  { s with
    curOp := .plainRead, curOpcode := opcode, curParam := 0, curLen := n
    frame := #v[opcode, 0, 0, 0, 0, 0, 0, 0]
    buf := overwrite s.buf r n.toNat
    bufLen := n
    resBuf := overwrite s.resBuf r n.toNat
    resLen := n
    trace := s.trace ++ [sent opcode 0, received n.toNat r]
    world := w.afterCompletions 1
    phase := .done }

/-- A plain read is one write and one read, and no check of the reply. -/
theorem runCommand_plainRead {s : State} {opcode : Byte} {n : BitVec 6} {r : Reply} {w : World}
    (ha : s.world.allows 1) (hr : s.world.answer = some (r, w)) :
    runCommand (startRead .plainRead opcode n s) = s.presentPlainReply opcode n r w := by
  have hsend := stepWrite_of_allows (j := 0) (s := startRead .plainRead opcode n s) ha
  rw [afterWrite_of_reads (by simp [startRead, Op.replyKind])] at hsend
  have hanswer : (s.world.afterCompletions 1).answer = some (r, w.afterCompletions 1) := by
    rw [World.answer_afterCompletions, hr]
    rfl
  have hres := overwrite_of_overwrite s.resBuf s.buf r n.toNat
  have hrun : advanceN 2 (startRead .plainRead opcode n s) = s.presentPlainReply opcode n r w := by
    rw [advanceN, advanceN, advanceN, advance_of_write (s := startRead _ _ _ _) rfl, hsend, advance_of_read rfl,
      stepRead_of_answer hanswer, afterRead_of_plain rfl]
    simp only [startRead, State.latchOp, State.latchWire, State.latchLen, State.goTo, State.setResBuf, State.complete,
      State.presentPlainReply, Op.isWire, hres, List.append_assoc]
    rfl
  exact advanceN_completed (Nat.le_trans (by omega) (four_le_transitionBudget _)) hrun (.inl rfl)

/-- Settles O24: an idle, ready block accepts the length, and the run presents the reply. -/
theorem plainReadCompletes : Obligations.PlainReadCompletes := by
  intro s opcode len r w hp hr h1 h32 hd ha
  have hn : (latchedLen len).toNat = len.toNat := latchedLen_toNat h32
  have haccept : Accepts (.plainRead opcode len) s := ⟨hp, fun _ => hr, decide_eq_true ⟨h1, h32⟩⟩
  have hrun := runCommand_plainRead (s := s.freeResults) (opcode := opcode) (n := latchedLen len) ha
    (World.answer_of_draw_one hd)
  rw [exec_of_accepts haccept]
  refine (congrArg _ hrun).trans ?_
  rw [State.presentPlainReply, hn, latchedLen_eq]
  rfl

/-- A command that only writes is complete after its one transition (40_transport.md R81). -/
theorem runCommand_startWrite {s : State} {op : Op} {opcode param : Byte} (hk : op.replyKind = .none)
    (ha : s.world.allows 1) :
    runCommand (startWrite op opcode param s) = afterWrite { s.afterWrite op opcode param with phase := .write } := by
  refine advanceN_completed (m := 1) (Nat.le_trans (by omega) (four_le_transitionBudget _)) (advance_startWrite ha) ?_
  rw [afterWrite_phase, if_pos (by exact hk)]
  split <;> simp

/-- Settles O21: an idle block accepts `WRITE` when it is ready, and its one transition completes it. -/
theorem writeCompletes : Obligations.WriteCompletes := by
  intro s opcode param hp
  refine ⟨fun hr ha => ?_, fun hr => ?_⟩
  · have haccept : Accepts (.write opcode param) s := ⟨hp, fun _ => hr, rfl⟩
    rw [exec_of_accepts haccept]
    exact congrArg _ (runCommand_startWrite (s := s.freeResults) rfl ha)
  · rw [exec_write, acceptHost_notReady hp hr]

end Sys2Proof.Machine

namespace Sys2Proof.Machine

/-! ## The decoder on a byte sequence -/

/-- Four bytes, low byte first, are their concatenation from the last to the first (30_encoding.md R76). -/
theorem le32_eq (s : List Byte) (k : Nat) :
    le32 s k = byteAt s (k + 3) ++ byteAt s (k + 2) ++ byteAt s (k + 1) ++ byteAt s k := by
  apply BitVec.eq_of_getLsbD_eq
  intro i hi
  simp only [le32, BitVec.getLsbD_or, BitVec.getLsbD_shiftLeft, BitVec.truncate_eq_setWidth,
    BitVec.getLsbD_setWidth, BitVec.getLsbD_append]
  interval_cases i <;> simp

/-- The one layout of a float field is little-endian (20_memory.md R45). -/
theorem floatPattern_eq (s : List Byte) (k : Nat) : floatPattern s k = le32 s k := rfl

theorem decodeCounts_getElem (s : List Byte) (i : Fin 7) : (decodeCounts s)[i] =
    byteAt s (4 * i) ++ byteAt s (4 * i + 1) ++ byteAt s (4 * i + 2) ++ byteAt s (4 * i + 3) := by
  rw [← be32_eq]
  exact Vector.getElem_ofFn i.isLt

theorem decodeConc_getElem (s : List Byte) (i : Fin 7) : (decodeConc s)[i] =
    byteAt s (4 * i + 3) ++ byteAt s (4 * i + 2) ++ byteAt s (4 * i + 1) ++ byteAt s (4 * i) := by
  rw [← le32_eq]
  exact Vector.getElem_ofFn i.isLt

/-- The number of a concatenation has the low part as its last digit. -/
theorem toNat_append_eq_add {m n : Nat} (x : BitVec m) (y : BitVec n) :
    (x ++ y).toNat = x.toNat * 2 ^ n + y.toNat := by
  rw [BitVec.toNat_append, ← Nat.shiftLeft_add_eq_or_of_lt y.isLt, Nat.shiftLeft_eq]

/-- Settles O14: the element is the four bytes' concatenation, whose digits in base 256 they are. -/
theorem countsAreBigEndian : Obligations.CountsAreBigEndian := by
  intro s i b0 b1 b2 b3 h0 h1 h2 h3
  rw [decodeCounts_getElem, byteAt_of_getElem? h0, byteAt_of_getElem? h1, byteAt_of_getElem? h2,
    byteAt_of_getElem? h3]
  simp only [toNat_append_eq_add]
  omega

/-- Settles O15: the little-endian field at 4i is its bytes from the last to the first. -/
theorem concentrationsAreLittleEndianVerbatim : Obligations.ConcentrationsAreLittleEndianVerbatim := by
  intro s i b0 b1 b2 b3 h0 h1 h2 h3
  rw [decodeConc_getElem, byteAt_of_getElem? h0, byteAt_of_getElem? h1, byteAt_of_getElem? h2,
    byteAt_of_getElem? h3]

/-! ## The bytes a decode reads -/

section
variable {s t : List Byte}

theorem byteAt_eq_of_take_eq {n k : Nat} (h : s.take n = t.take n) (hk : k < n) : byteAt s k = byteAt t k := by
  rw [← byteAt_take hk, h, byteAt_take hk]

theorem decodeCounts_eq_of_take_eq (h : s.take 28 = t.take 28) : decodeCounts s = decodeCounts t := by
  refine congrArg Vector.ofFn (funext fun i => ?_)
  have hi : i.val < 7 := i.isLt
  simp (disch := omega) only [be32, byteAt_eq_of_take_eq h]

theorem decodeConc_eq_of_take_eq (h : s.take 28 = t.take 28) : decodeConc s = decodeConc t := by
  refine congrArg Vector.ofFn (funext fun i => ?_)
  have hi : i.val < 7 := i.isLt
  simp (disch := omega) only [floatPattern_eq, le32, byteAt_eq_of_take_eq h]

theorem decodeVref_eq_of_take_eq (h : s.take 2 = t.take 2) : decodeVref s = decodeVref t := by
  rw [decodeVref, decodeVref, be16_eq, be16_eq, byteAt_eq_of_take_eq h (by decide), byteAt_eq_of_take_eq h (by decide)]

theorem decodeStatus_eq_of_take_eq (h : s.take 1 = t.take 1) : decodeStatus s = decodeStatus t :=
  byteAt_eq_of_take_eq h (by decide)

end

/-- Settles O16: no decode reads a byte above those it is given. -/
theorem decoderIgnoresSlackAndTrailer : Obligations.DecoderIgnoresSlackAndTrailer := fun _ _ =>
  ⟨fun h => ⟨decodeCounts_eq_of_take_eq h, decodeConc_eq_of_take_eq h⟩, decodeVref_eq_of_take_eq,
    decodeStatus_eq_of_take_eq⟩

/-! ## The integers the host reads -/

/-- Settles O17: the status fits in 16 bits, and a signed pattern counts from 2^16 down where bit 15 is set. -/
theorem hostIntegers : Obligations.HostIntegers := by
  refine ⟨fun b => ?_, fun p => ?_⟩
  · exact congrArg Nat.cast (BitVec.toNat_setWidth_of_le (by decide))
  · cases hv : Config.vrefSigned with
    | false => simp [hostVref, hv]
    | true =>
      have hbit : 2 * p.toNat < 2 ^ 16 ↔ ¬ 0x8000 ≤ p.toNat := by omega
      rw [hostVref, hv, if_pos rfl, BitVec.toInt_eq_toNat_cond, if_congr hbit rfl rfl, ite_not]
      simp

/-! ## The phase `DECODE` -/

theorem step_of_decode {s : State} (hr : s.resetRequest = false) (hp : s.phase = .decode) :
    step s = .next (stepDecode s) := by
  rw [step_of_busy hr (by simp [State.busy, hp]), advance_of_decode hp]

section
variable {s : State}

theorem stepDecode_of_getReferenceVoltage (h : s.curOp = .getReferenceVoltage) :
    stepDecode s = (s.setResValue (decodeVref s.reply)).complete := by
  simp only [stepDecode, h]

theorem stepDecode_of_getStatus (h : s.curOp = .getStatus) :
    stepDecode s = (s.setResValue ((decodeStatus s.reply).zeroExtend 16)).complete := by
  simp only [stepDecode, h]

theorem stepDecode_of_readVref_or_readStatus (h : s.curOp = .readVref ∨ s.curOp = .readStatus) :
    stepDecode s = s.complete := by
  rcases h with h | h <;> simp only [stepDecode, h]

theorem stepDecode_of_firstOfUpdate (h : s.curOp = .update ∧ s.curOpcode = 0x11) :
    stepDecode s = decodeUpdateCounts s := by
  simp only [stepDecode, h]
  rfl

/-- After a counts reply the counts are decoded, by either command that asks for one; no other output is written. -/
theorem stepDecode_of_countsOpcode (h : s.curOp = .update ∨ s.curOp = .readCounts) (ho : s.curOpcode = 0x11) :
    (stepDecode s).particleCounts = decodeCounts s.reply ∧
      (stepDecode s).massConcentrations = s.massConcentrations ∧ (stepDecode s).resValue = s.resValue := by
  rcases h with h | h
  · rw [stepDecode_of_firstOfUpdate ⟨h, ho⟩]
    exact ⟨rfl, rfl, rfl⟩
  · have e : stepDecode s = (s.setCounts (decodeCounts s.reply)).complete := by simp only [stepDecode, h]
    rw [e]
    exact ⟨rfl, rfl, rfl⟩

/-- After a concentrations reply likewise. -/
theorem stepDecode_of_concOpcode (h : s.curOp = .update ∨ s.curOp = .readConc) (ho : s.curOpcode = 0x12) :
    stepDecode s = (s.setConc (decodeConc s.reply)).complete := by
  rcases h with h | h
  · simp only [stepDecode, h, ho]
    rfl
  · simp only [stepDecode, h]

/-- A decode that is not the first of `UPDATE` completes its command, with some readings and `res_value`. -/
theorem stepDecode_eq_complete (h : ¬(s.curOp = .update ∧ s.curOpcode = 0x11)) :
    ∃ c m v, stepDecode s = (((s.setCounts c).setConc m).setResValue v).complete := by
  obtain ⟨hup, -⟩ | ⟨-, e⟩ | ⟨-, e⟩ | ⟨-, v, e⟩ := stepDecode_cases s
  · exact absurd hup h
  · exact ⟨decodeCounts s.reply, s.massConcentrations, s.resValue, e⟩
  · exact ⟨s.particleCounts, decodeConc s.reply, s.resValue, e⟩
  · exact ⟨s.particleCounts, s.massConcentrations, v, e⟩

theorem complete_busy (s : State) : s.complete.busy = false := by
  rw [complete_eq, State.busy, State.goTo_phase]
  split <;> rfl

/-- A decode writes the readings, `res_value`, the wire latches and the phase at most. -/
theorem stepDecode_frame (s : State) : stepDecode s = { s with
    particleCounts := (stepDecode s).particleCounts, massConcentrations := (stepDecode s).massConcentrations
    resValue := (stepDecode s).resValue
    curOpcode := (stepDecode s).curOpcode, curParam := (stepDecode s).curParam, curLen := (stepDecode s).curLen
    phase := (stepDecode s).phase } := by
  by_cases h : s.curOp = .update ∧ s.curOpcode = 0x11
  · rw [stepDecode_of_firstOfUpdate h]
    rfl
  · obtain ⟨c, m, v, e⟩ := stepDecode_eq_complete h
    rw [e]
    rfl

/-- Only the first decode of `UPDATE` loads latches, those of its second read (10_state.md R26), and goes to `WRITE`
(R28). -/
theorem stepDecode_latches (hpar : s.curParam = 0) : (stepDecode s).curParam = s.curParam ∧
    if s.curOp = .update ∧ s.curOpcode = 0x11
      then (stepDecode s).curOpcode = 0x12 ∧ (stepDecode s).curLen = 32 ∧ (stepDecode s).phase = .write
      else (stepDecode s).curOpcode = s.curOpcode ∧ (stepDecode s).curLen = s.curLen ∧
        (stepDecode s).busy = false := by
  by_cases h : s.curOp = .update ∧ s.curOpcode = 0x11
  · rw [if_pos h, stepDecode_of_firstOfUpdate h]
    exact ⟨hpar.symm, rfl, rfl, rfl⟩
  · obtain ⟨c, m, v, e⟩ := stepDecode_eq_complete h
    rw [if_neg h, e]
    exact ⟨rfl, rfl, rfl, complete_busy _⟩

theorem reply_take {n : Nat} (h : n ≤ s.bufLen.toNat) : s.reply.take n = s.buf.toList.take n := by
  rw [State.reply, List.take_take, Nat.min_eq_left h]

end

section
variable {s : State} (hi : s.Inv) (hp : s.phase = .decode)
include hi hp

/-- When a reply is decoded, `buf` holds as much of it as its command reads (10_state.md R26, 30_encoding.md R66). -/
theorem State.Inv.decodedReply :
    (s.curOpcode = 0x11 → (s.curOp = .update ∨ s.curOp = .readCounts) ∧ s.bufLen = 30) ∧
    (s.curOpcode = 0x12 → (s.curOp = .update ∨ s.curOp = .readConc) ∧ s.bufLen = 32) ∧
    (s.curOp = .getReferenceVoltage → s.bufLen = 4) ∧ (s.curOp = .getStatus → s.bufLen = 3) := by
  have hl := hi.latches (by rw [hp]; rfl)
  obtain ⟨hk, hn, -⟩ := hi.inBuf (.inr hp)
  have hop := (hi.decoded hp).2
  rw [State.LatchesOk] at hl
  cases h : s.curOp with
  | update =>
    rw [h] at hl
    obtain ⟨-, ⟨ho, hlen⟩ | ⟨ho, hlen⟩⟩ := hl <;> simp [ho, hn, hlen]
  | _ => simp_all [Op.replyKind]

/-- `DECODE_COUNTS` (43_decode.md R141). -/
theorem stepDecode_counts (ho : s.curOpcode = 0x11) :
    (∀ i : Fin 7, (stepDecode s).particleCounts[i] =
      byteAt s.buf.toList (4 * i) ++ byteAt s.buf.toList (4 * i + 1) ++
        byteAt s.buf.toList (4 * i + 2) ++ byteAt s.buf.toList (4 * i + 3)) ∧
      (stepDecode s).massConcentrations = s.massConcentrations ∧ (stepDecode s).resValue = s.resValue := by
  obtain ⟨hcounts, -⟩ := hi.decodedReply hp
  obtain ⟨hop, hn⟩ := hcounts ho
  obtain ⟨hc, hm, hv⟩ := stepDecode_of_countsOpcode hop ho
  rw [hc, decodeCounts_eq_of_take_eq (reply_take (by simp [hn]))]
  exact ⟨decodeCounts_getElem _, hm, hv⟩

/-- `DECODE_CONC` (R142). -/
theorem stepDecode_conc (ho : s.curOpcode = 0x12) :
    (∀ i : Fin 7, (stepDecode s).massConcentrations[i] =
      byteAt s.buf.toList (4 * i + 3) ++ byteAt s.buf.toList (4 * i + 2) ++
        byteAt s.buf.toList (4 * i + 1) ++ byteAt s.buf.toList (4 * i)) ∧
      (stepDecode s).particleCounts = s.particleCounts ∧ (stepDecode s).resValue = s.resValue := by
  obtain ⟨-, hconc, -⟩ := hi.decodedReply hp
  obtain ⟨hop, hn⟩ := hconc ho
  rw [stepDecode_of_concOpcode hop ho, decodeConc_eq_of_take_eq (reply_take (by simp [hn]))]
  exact ⟨decodeConc_getElem _, rfl, rfl⟩

/-- `DECODE_VREF` (R143). -/
theorem stepDecode_vref (hop : s.curOp = .getReferenceVoltage) : SameReadings s (stepDecode s) ∧
    (stepDecode s).resValue = byteAt s.buf.toList 0 ++ byteAt s.buf.toList 1 := by
  obtain ⟨-, -, hvref, -⟩ := hi.decodedReply hp
  rw [stepDecode_of_getReferenceVoltage hop, decodeVref_eq_of_take_eq (reply_take (by simp [hvref hop])), ← be16_eq]
  exact ⟨⟨rfl, rfl⟩, rfl⟩

/-- `DECODE_STATUS` (R144). -/
theorem stepDecode_status (hop : s.curOp = .getStatus) : SameReadings s (stepDecode s) ∧
    (stepDecode s).resValue = 0#8 ++ byteAt s.buf.toList 0 := by
  obtain ⟨-, -, -, hstatus⟩ := hi.decodedReply hp
  have hext (b : Byte) : b.zeroExtend 16 = 0#8 ++ b := BitVec.setWidth_eq_append (by decide)
  rw [stepDecode_of_getStatus hop, decodeStatus_eq_of_take_eq (reply_take (by simp [hstatus hop])), hext]
  exact ⟨⟨rfl, rfl⟩, rfl⟩

end

/-- Settles O40: the invariant gives the reply's opcode and length, so each decode reads its bytes of `buf`; of the rest
of the state only the latches can change. -/
theorem decodesWriteTheirDestination : Obligations.DecodesWriteTheirDestination := by
  intro s hi hr hp
  have field {α : Type} (f : State → α) := congrArg f (stepDecode_frame s)
  have hpar : s.curParam = 0 := (hi.checkedLatches (by rw [hp]; rfl) (hi.inBuf (.inr hp)).1).1
  obtain ⟨hparam, hlatches⟩ := stepDecode_latches hpar
  refine ⟨stepDecode s, step_of_decode hr hp, field State.buf, field State.bufLen, field State.crc, field State.frame,
    field State.trace, field State.world, field State.resBuf, field State.resLen, field State.resOk, field State.ready,
    field State.debug, field State.curOp, hparam, hlatches, stepDecode_counts hi hp, stepDecode_conc hi hp,
    stepDecode_vref hi hp, stepDecode_status hi hp, fun hop => ?_⟩
  rw [stepDecode_of_readVref_or_readStatus hop]
  exact ⟨⟨rfl, rfl⟩, rfl⟩

end Sys2Proof.Machine

namespace Sys2Proof.Machine

/-! ## The commands that only write, and `SET_DEBUG` -/

theorem accepts_of_ready {i : Instr} {s : State} (hp : s.phase = .idle) (hr : s.ready = true)
    (hl : i.wellFormed = true) : Accepts i s := ⟨hp, fun _ => hr, hl⟩

/-- A block in a phase is as it would be after going to it. -/
theorem State.eq_goTo_of_phase {s : State} {p : Phase} (h : s.phase = p) : s = s.goTo p := by
  subst h
  rfl

/-- Settles O19: an idle block accepts both when it is ready, and after the one transition of each it is idle, as it
was. -/
theorem writingWireCommandsComplete : Obligations.WritingWireCommandsComplete := by
  intro s p hp
  constructor
  · intro hr ha
    constructor
    · rw [exec_of_accepts (accepts_of_ready (i := .init) hp hr rfl)]
      exact congrArg _ ((runCommand_startWrite rfl ha).trans (.symm (State.eq_goTo_of_phase hp)))
    · rw [exec_of_accepts (accepts_of_ready (i := .fanControl p) hp hr rfl)]
      exact congrArg _ ((runCommand_startWrite rfl ha).trans (.symm (State.eq_goTo_of_phase hp)))
  · intro hr
    rw [exec_init, exec_fanControl]
    exact ⟨acceptWire_notReady hp hr, acceptWire_notReady hp hr⟩

/-- Settles O20: an idle, ready block accepts `SET_FAN`, and its one transition completes it. -/
theorem setFanCompletes : Obligations.SetFanCompletes := by
  intro s on hp hr ha
  rw [exec_of_accepts (i := .setFan on) (accepts_of_ready hp hr rfl)]
  exact congrArg _ (runCommand_startWrite (s := s.freeResults) rfl ha)

/-- Settles O22: an idle block accepts `SET_DEBUG`, ready or not, and completes it without a transition. -/
theorem setDebugCompletes : Obligations.SetDebugCompletes := by
  intro s enabled hp
  rw [exec_setDebug]
  exact acceptHost_idle (needsReady := false) hp nofun rfl

end Sys2Proof.Machine

namespace Sys2Proof.Machine

/-! ## The commands of one checksummed read and a decode -/

/-- A command that decodes the reply of a checksummed read, accepted by the ready block `s` and started in `u`, runs to
its decode of the valid reply (42_checked_read.md R122, R128). -/
theorem exec_decodedRead {i : Instr} {op : Op} {opcode : Byte} {n : BitVec 6} {bad : List Reply} {good : Reply}
    {w : World} {s u : State} (hp : s.phase = .idle) (hr : s.ready = true) (hl : i.wellFormed = true)
    (hstart : startOf i s = startRead op opcode n u) (hop : op ≠ .checksummedRead ∧ op ≠ .update)
    (hk : op.replyKind = .checked) (hn : 2 ≤ n.toNat ∧ n.toNat ≤ 32) (hg : u.world.Gives n.toNat bad good w)
    (ha : u.world.allows (2 * bad.length + 1)) :
    exec i s = .next (stepDecode { u.afterRead op opcode n bad good w with phase := .decode }) := by
  rw [exec_of_accepts (accepts_of_ready hp hr hl), hstart, runCommand_decodedRead hop.1 hop.2 hk hn.1 hn.2 hg ha]

theorem decodeVref_firstBytes (r : Reply) : decodeVref (firstBytes r 4) = r[0] ++ r[1] := by
  rw [decodeVref, be16_eq, byteAt_firstBytes _ (by decide) (by decide), byteAt_firstBytes _ (by decide) (by decide)]

theorem decodeStatus_firstBytes (r : Reply) : decodeStatus (firstBytes r 3) = r[0] :=
  byteAt_firstBytes _ (by decide) (by decide)

/-- Settles O25: the read runs to its decode, which is of the first two bytes. -/
theorem getReferenceVoltageCompletes : Obligations.GetReferenceVoltageCompletes := by
  intro s bad good w hp hr hg ha
  rw [exec_decodedRead (i := .getReferenceVoltage) (u := s.freeResults) hp hr rfl rfl (by decide) rfl (by decide) hg ha,
    stepDecode_of_getReferenceVoltage rfl, State.afterRead_reply, ← decodeVref_firstBytes]
  rfl

/-- Settles O26: the read runs to its decode, which is of the first byte. -/
theorem getStatusCompletes : Obligations.GetStatusCompletes := by
  intro s bad good w hp hr hg ha
  rw [exec_decodedRead (i := .getStatus) (u := s.freeResults) hp hr rfl rfl (by decide) rfl (by decide) hg ha,
    stepDecode_of_getStatus rfl, State.afterRead_reply, ← decodeStatus_firstBytes]
  rfl

theorem stepDecode_of_readCounts {s : State} (h : s.curOp = .readCounts) :
    stepDecode s = (s.setCounts (decodeCounts s.reply)).complete := by
  simp only [stepDecode, h]

/-- Settles O27: each read runs to its decode, after which the block is idle, as it was. -/
theorem readingWireCommandsComplete : Obligations.ReadingWireCommandsComplete := by
  intro s bad good w hp hr ha
  refine ⟨fun hg => ?_, fun hg => ?_, fun hg => ?_, fun hg => ?_⟩
  · rw [exec_decodedRead hp hr rfl rfl (by decide) rfl (by decide) hg ha, stepDecode_of_readCounts rfl,
      State.afterRead_reply]
    exact congrArg _ (.symm (State.eq_goTo_of_phase hp))
  · rw [exec_decodedRead hp hr rfl rfl (by decide) rfl (by decide) hg ha,
      stepDecode_of_concOpcode (.inr rfl) rfl, State.afterRead_reply]
    exact congrArg _ (.symm (State.eq_goTo_of_phase hp))
  · rw [exec_decodedRead hp hr rfl rfl (by decide) rfl (by decide) hg ha,
      stepDecode_of_readVref_or_readStatus (.inl rfl)]
    exact congrArg _ (.symm (State.eq_goTo_of_phase hp))
  · rw [exec_decodedRead hp hr rfl rfl (by decide) rfl (by decide) hg ha,
      stepDecode_of_readVref_or_readStatus (.inr rfl)]
    exact congrArg _ (.symm (State.eq_goTo_of_phase hp))

end Sys2Proof.Machine

namespace Sys2Proof.Machine

/-! ## `UPDATE` -/

theorem exec_update_of_ready {s : State} (hp : s.phase = .idle) (hr : s.ready = true) :
    exec .update s = .next (runCommand (startRead .update 0x11 30 s.freeResults)) :=
  exec_of_accepts (accepts_of_ready (i := .update) hp hr rfl)

/-- Settles O28: what completes for both reads completes for the first, and for the second in the world the first one
left. -/
theorem updateCompletes : Obligations.UpdateCompletes := by
  intro s bad₁ bad₂ good₁ good₂ w₁ w₂ hp hr hg₁ hg₂ ha
  obtain ⟨-, -, -, hc⟩ := World.Gives_length hg₁
  have ha₁ : s.world.allows (2 * bad₁.length + 1) := World.allows_mono ha (by omega)
  have hboth : w₁.allows (2 * bad₁.length + 1 + (2 * bad₂.length + 1)) :=
    World.allows_mono ((World.allows_congr hc).2 ha) (by omega)
  have hrun := runCommand_update (s := s.freeResults) hg₁ ha₁ (World.Gives_afterCompletions hg₂)
    (World.allows_afterCompletions hboth)
  rw [exec_update_of_ready hp hr, hrun]
  rfl

/-- After its first read `UPDATE` is in the retry loop of its second, for ever if no valid reply comes. -/
theorem retrying_betweenReads {s : State} {bad : List Reply} {good : Reply} {w : World} (hnever : w.NeverValid 32)
    (n : Nat) : Retrying (s.betweenReads bad good w) (advanceN n (s.betweenReads bad good w)) := by
  have h2 : 2 ≤ (32 : BitVec 6).toNat := by decide
  have h32 : (32 : BitVec 6).toNat ≤ 32 := by decide
  have hstart : Retrying (s.betweenReads bad good w) (s.betweenReads bad good w) := ⟨.inl rfl, hnever, nofun, .refl _⟩
  exact advanceN_induction (fun _ hu => hu.advance rfl h2 h32) n hstart

/-- Settles O29: the first read fits the budget of the command, and the rest of it is spent in the retry loop of the
second, which writes neither array. -/
theorem updateArraysAreNotWrittenTogether : Obligations.UpdateArraysAreNotWrittenTogether := by
  intro s bad good w hp hr hg ha hnever
  obtain ⟨n, hn⟩ := Nat.exists_eq_add_of_le (budget_of_gives hg)
  have hrun : runCommand (startRead .update 0x11 30 s.freeResults) =
      advanceN n (s.freeResults.betweenReads bad good w) := by
    rw [← advanceN_firstRead (s := s.freeResults) hg ha, ← advanceN_add, ← hn]
    rfl
  have hloop := retrying_betweenReads (s := s.freeResults) (bad := bad) (good := good) hnever n
  obtain ⟨⟨hcounts, hconc⟩, -⟩ := hloop.scratch.outputs
  exact ⟨_, (exec_update_of_ready hp hr).trans (congrArg _ hrun), hcounts, hconc, hloop.busy⟩

end Sys2Proof.Machine

namespace Sys2Proof

/-! ## Reserved request words -/

/-- A request word with `op` in 0x9 to 0xF is in no row of the table (30_encoding.md R72). -/
theorem decodeRequest_of_reserved {w : BitVec 20} (h : 9 ≤ (reqOp w).toNat) :
    decodeRequest w = .error .reservedRequest := by
  unfold decodeRequest
  split
  case h_10 => rfl
  all_goals omega

end Sys2Proof

namespace Sys2Proof.Machine

/-! ## Acceptance and refusal -/

/-- Whatever the operands, `not_ready` is decided first (60_exceptions.md R177, R179). -/
theorem exec_of_notReady {i : Instr} {s : State} (hp : s.phase = .idle) (hi : i.needsReady = true)
    (hr : s.ready = false) : exec i s = .refused .notReady := by
  cases hh : i.isHost with
  | false => rw [exec_of_wire hh, acceptWire_notReady hp hr]
  | true => rw [exec_of_host hh, hi, acceptHost_notReady hp hr]

/-- Only a host command can be ill formed, so acceptance of a wire command tests no length (R176). -/
theorem exec_of_badLength {i : Instr} {s : State} (hp : s.phase = .idle) (hr : s.ready = true)
    (hi : i.wellFormed = false) : exec i s = .refused .badLength := by
  have hh : i.isHost = true := by
    by_contra hw
    simp [(needsReady_of_wire (Bool.eq_false_iff.2 hw)).2] at hi
  rw [exec_of_host hh, hi, acceptHost_badLength hp fun _ => hr]

theorem needsReady_of_ne {i : Instr} (hb : i ≠ .begin) (hd : ∀ e, i ≠ .setDebug e) : i.needsReady = true := by
  cases i with
  | begin => exact absurd rfl hb
  | setDebug e => exact absurd rfl (hd e)
  | _ => rfl

/-- A ready block gives the decoder's reason (30_encoding.md R72). -/
theorem runPending_of_reserved {s : State} {c : Code} (hr : s.ready = true) (hc : s.pending = some c)
    (hd : decode c = .error .reservedRequest) : runPending s = .refused .reservedRequest := by
  simp [runPending, hc, hd, refusalOf, hr]

/-- Settles O33: a block that is not idle answers every request with its own state, and an idle one accepts what the two
rules do not refuse. -/
theorem everyInstructionRunsUnlessTheSpecRefuses : Obligations.EveryInstructionRunsUnlessTheSpecRefuses := by
  intro i s hready hlen
  by_cases hp : s.phase = .idle
  · have haccepts : Accepts i s :=
      ⟨hp, fun hn => by_contra fun hr => hready ⟨hp, hn, Bool.eq_false_iff.2 hr⟩,
        by_contra fun hw => hlen ⟨hp, Bool.eq_false_iff.2 hw⟩⟩
    exact ⟨_, exec_of_accepts haccepts⟩
  · exact ⟨s, exec_of_not_idle i hp⟩

/-- Settles O31: every other command needs a ready driver, a wire command too (40_transport.md R87). -/
theorem notReadyIsRefused : Obligations.NotReadyIsRefused :=
  fun _ _ _ hb hd hp hr => exec_of_notReady hp (needsReady_of_ne hb hd) hr

/-- Settles O32: a length outside the domain makes a read ill formed, and a word with such an `op` is no request. -/
theorem outOfDomainRequestsAreRefused : Obligations.OutOfDomainRequestsAreRefused := by
  intro s hp hr
  refine ⟨fun opcode len hlen => ?_, fun opcode len hlen => ?_, fun op a b hreset hop hc => ?_⟩
  · exact exec_of_badLength hp hr (decide_eq_false (by simp only [Config.maxReplyLen]; omega))
  · exact exec_of_badLength hp hr (decide_eq_false (by simp only [Config.maxReplyLen]; omega))
  · have hd : decodeRequest (reqWord op a b) = .error .reservedRequest :=
      decodeRequest_of_reserved (by rwa [reqOp_reqWord])
    rw [step_of_idle hreset hp]
    exact runPending_of_reserved hr hc hd

end Sys2Proof.Machine

namespace Sys2Proof.Machine

/-! ## The error condition, and a primitive that never completes -/

/-- Settles O43: the step of a busy block is the transition of its phase, `CHECK` with a mismatch or `BACKOFF`. -/
theorem mismatchWaitsAndRetries : Obligations.MismatchWaitsAndRetries := by
  intro s hr
  constructor
  · intro hp hm
    rw [step_of_busy hr (by simp [State.busy, hp]), advance_of_check hp, stepCheck_of_mismatch hm]
    rfl
  · intro hp ha
    rw [step_of_busy hr (by simp [State.busy, hp]), advance_of_backoff hp, stepBackoff_of_allows ha]

/-- Settles O45: a held transition leaves the block held, so a run is a run of held transitions, which together at most
build the frame that would be sent. -/
theorem hangStaysInItsPhase : Obligations.HangStaysInItsPhase := by
  intro s n hr hheld
  have hstep (u : State) (hu : u.resetRequest = false ∧ u.Held) :
      (advance u).resetRequest = false ∧ (advance u).Held := by
    obtain e | ⟨f, e⟩ := advance_of_held hu.2 <;> rw [e] <;> exact hu
  obtain ⟨hrun, -⟩ := run_core_of_busy (fun _ hu => ⟨hu.1, hu.2.busy⟩) hstep n ⟨hr, hheld⟩
  obtain ⟨f, hf⟩ := advanceN_of_held_eq n hheld
  rw [hf] at hrun
  exact ⟨_, hrun, rfl, rfl, hheld.busy, ⟨rfl, rfl⟩, rfl⟩

end Sys2Proof.Machine

namespace Sys2Proof.Machine

/-! ## Reset at any time -/

/-- Settles O41: the step takes the waiting reset before it looks at the phase, and the state it leaves has the
reset values (O38). -/
theorem resetAbandonsTheCommand : Obligations.ResetAbandonsTheCommand := by
  intro s hreset
  obtain ⟨harrays, hphase, hbusy, hdone, hready, htrace⟩ := resetValues
  exact ⟨s.takeReset, step_of_resetRequest hreset, harrays, hphase, hbusy, hdone, hready, htrace, rfl, rfl⟩

/-! ## Before `BEGIN` has completed -/

/-- A word that is no instruction has the reason `not_ready` too, while the block is not ready
(92_eei_decisions.md D6). -/
theorem runPending_of_error_notReady {s : State} {c : Code} {e : DecodeError} (hr : s.ready = false)
    (hc : s.pending = some c) (hd : decode c = .error e) : runPending s = .refused .notReady := by
  simp [runPending, hc, hd, refusalOf, hr]

/-- Settles O59: a word either decodes, to a command that needs a ready driver, or is no instruction. -/
theorem nothingElseIsAcceptedBeforeBegin : Obligations.NothingElseIsAcceptedBeforeBegin := by
  intro s c hreset hp hr hc hbegin hdebug
  rw [step_of_idle hreset hp]
  cases hd : decode c with
  | error e => exact runPending_of_error_notReady hr hc hd
  | ok i =>
    have hneeds : i.needsReady = true :=
      needsReady_of_ne (fun hi => hbegin (hi ▸ hd)) fun e hi => hdebug e (hi ▸ hd)
    rw [runPending_of_ok hc hd]
    exact exec_of_notReady (s := s.takePending) hp hneeds hr

end Sys2Proof.Machine

namespace Sys2Proof.Machine

/-! ## The waits of a trace -/

@[simp] theorem waitedMs_append (t u : List Event) : waitedMs (t ++ u) = waitedMs t + waitedMs u := by
  simp [waitedMs]

/-- One backoff wait for each failed pass (42_checked_read.md R122). -/
@[simp] theorem waitedMs_readEvents (opcode : Byte) (n : Nat) (bad : List Reply) (good : Reply) :
    waitedMs (readEvents opcode n bad good) = bad.length * 1000 := by
  rw [readEvents, waitedMs_append]
  induction bad with
  | nil => rfl
  | cons r bad ih =>
    have hpass : waitedMs [sent opcode 0, received n r, .wait 1000] = 1000 := by simp [waitedMs, sent, received]
    rw [List.flatMap_cons, waitedMs_append, hpass, List.length_cons]
    omega

/-! ## The replies a peripheral gives are determined -/

/-- The first reply given is the valid one, or it fails and the rest are given by the world it leaves. -/
theorem World.Gives.cases {n : Nat} {w w' : World} {bad : List Reply} {good : Reply} (h : w.Gives n bad good w') :
    bad = [] ∧ ReplyValid n good ∧ w.answer = some (good, w') ∨
      ∃ r bad' w₁, bad = r :: bad' ∧ ¬ ReplyValid n r ∧ w.answer = some (r, w₁) ∧ w₁.Gives n bad' good w' := by
  obtain ⟨hd, hb, hv⟩ := h
  cases bad with
  | nil => exact .inl ⟨rfl, hv, World.answer_of_draw_one hd⟩
  | cons b bad =>
    obtain ⟨r, rs, w₁, he, ha, hrest⟩ := World.draw_succ_eq_some hd
    obtain ⟨rfl, rfl⟩ := List.cons.inj he
    obtain ⟨hb, hbad⟩ := List.forall_mem_cons.1 hb
    exact .inr ⟨b, bad, w₁, rfl, hb, ha, hrest, hbad, hv⟩

theorem World.Gives.unique {n : Nat} {w w₁ w₂ : World} {bad₁ bad₂ : List Reply} {good₁ good₂ : Reply}
    (h₁ : w.Gives n bad₁ good₁ w₁) (h₂ : w.Gives n bad₂ good₂ w₂) : bad₁ = bad₂ ∧ good₁ = good₂ ∧ w₁ = w₂ := by
  induction bad₁ generalizing w bad₂ with
  | nil =>
    obtain ⟨-, hv₁, ha₁⟩ | ⟨_, _, _, hnil, -⟩ := h₁.cases
    · obtain ⟨rfl, -, ha₂⟩ | ⟨r, _, _, -, hr, ha₂, -⟩ := h₂.cases
      · cases ha₁.symm.trans ha₂
        exact ⟨rfl, rfl, rfl⟩
      · cases ha₁.symm.trans ha₂
        exact absurd hv₁ hr
    · cases hnil
  | cons b bad ih =>
    obtain ⟨hnil, -⟩ | ⟨_, _, v, he, hb, ha₁, hg₁⟩ := h₁.cases
    · cases hnil
    · cases he
      obtain ⟨-, hv₂, ha₂⟩ | ⟨r, bad', v', rfl, -, ha₂, hg₂⟩ := h₂.cases
      · cases ha₁.symm.trans ha₂
        exact absurd hv₂ hb
      · cases ha₁.symm.trans ha₂
        obtain ⟨rfl, hgood, hworld⟩ := ih hg₁ hg₂
        exact ⟨rfl, hgood, hworld⟩

/-! ## `BEGIN` and `UPDATE` that complete -/

/-- A checksummed read that completes has had its writes and waits completed, one of each for each failed pass and the
last write. -/
theorem allows_of_gives_of_done {n : Nat} {s : State} {bad : List Reply} {good : Reply} {w : World}
    (hp : s.phase = .write) (hk : s.curOp.replyKind = .checked) (h2 : 2 ≤ s.curLen.toNat) (h32 : s.curLen.toNat ≤ 32)
    (hg : s.world.Gives s.curLen.toNat bad good w) (hd : (advanceN n s).phase = .done) :
    s.world.allows (2 * bad.length + 1) := by
  obtain ⟨bad', good', w', hg', ha⟩ := gives_of_done hp hk h2 h32 hd
  rwa [(hg.unique hg').1]

/-- A run of `UPDATE` that completes has had the writes and waits of both reads completed. -/
theorem allows_of_advanceN_update_done {n : Nat} {s : State} {bad₁ bad₂ : List Reply} {good₁ good₂ : Reply} {w₁ w₂ : World}
    (hg₁ : s.world.Gives 30 bad₁ good₁ w₁) (hg₂ : w₁.Gives 32 bad₂ good₂ w₂)
    (hd : (advanceN n (startRead .update 0x11 30 s)).phase = .done) :
    s.world.allows (2 * bad₁.length + 2 * bad₂.length + 2) := by
  have ha₁ : s.world.allows (2 * bad₁.length + 1) :=
    allows_of_gives_of_done (s := startRead .update 0x11 30 s) rfl rfl (by simp [startRead]) (by simp [startRead])
      hg₁ hd
  have hd₂ : (advanceN (4 * bad₁.length + 3 + 1 + n) (startRead .update 0x11 30 s)).phase = .done :=
    advanceN_done_of_le hd (Nat.le_add_left _ _)
  rw [advanceN_add, advanceN_firstRead hg₁ ha₁] at hd₂
  have ha₂ : (w₁.afterCompletions (2 * bad₁.length + 1)).allows (2 * bad₂.length + 1) :=
    allows_of_gives_of_done (s := s.betweenReads bad₁ good₁ w₁) rfl rfl (by simp [State.betweenReads])
      (by simp [State.betweenReads]) (World.Gives_afterCompletions hg₂) hd₂
  obtain ⟨-, -, -, hc⟩ := World.Gives_length hg₁
  have htotal := World.allows_of_afterCompletions ((World.allows_congr hc).2 ha₁) ha₂
  exact World.allows_mono ((World.allows_congr hc).1 htotal) (by omega)

theorem done_eq_false_of_busy {s : State} (h : s.busy = true) : s.done = false :=
  decide_eq_false (of_decide_eq_true h).2

/-- A `BEGIN` that completes has had its four primitives completed: with fewer it is held (40_transport.md R85). -/
theorem allows_of_begin_done {s t : State} (hp : s.phase = .idle) (h : exec .begin s = .next t)
    (hd : t.done = true) : s.world.allows 4 := by
  intro k hc
  by_contra hk
  obtain ⟨u, hu, -, hbusy, -⟩ := (beginRunsTheStartupSequence s hp).2 k hc (by omega)
  cases h.symm.trans hu
  simp [done_eq_false_of_busy hbusy] at hd

theorem allows_of_update_done {s t : State} {bad₁ bad₂ : List Reply} {good₁ good₂ : Reply} {w₁ w₂ : World}
    (hp : s.phase = .idle) (hr : s.ready = true) (hg₁ : s.world.Gives 30 bad₁ good₁ w₁)
    (hg₂ : w₁.Gives 32 bad₂ good₂ w₂) (h : exec .update s = .next t) (hd : t.done = true) :
    s.world.allows (2 * bad₁.length + 2 * bad₂.length + 2) := by
  obtain rfl := Host.Outcome.next.inj ((exec_update_of_ready hp hr).symm.trans h)
  exact allows_of_advanceN_update_done (s := s.freeResults) hg₁ hg₂ (of_decide_eq_true hd)

/-- Settles O30: a command that completes has had its primitives completed, so its trace is the one of `BEGIN` (O18) and
of `UPDATE` (O28), whose waits add up. -/
theorem leastDurations : Obligations.LeastDurations := by
  constructor
  · intro s t hp h hd
    have hrun := (beginRunsTheStartupSequence s hp).1 (allows_of_begin_done hp h hd)
    cases h.symm.trans hrun
    exact waitedMs_append _ _
  · intro s t bad₁ bad₂ good₁ good₂ w₁ w₂ hp hr hg₁ hg₂ h hd
    have ha := allows_of_update_done hp hr hg₁ hg₂ h hd
    cases h.symm.trans (updateCompletes s bad₁ bad₂ good₁ good₂ w₁ w₂ hp hr hg₁ hg₂ ha)
    simp [State.afterRead, Nat.add_mul]

end Sys2Proof.Machine
